-- ==== Sys2Proof/Word.lean ====
section
/-! DEFINITION. The word types of the Calphyr 4120: bytes of the serial lines, words of the memory bus, word addresses
and page numbers (00_scope.md, Conventions: "A word is 16 bits. An address is an 18-bit word address"). -/

namespace Sys2Proof

/-- A byte of an inertial line, or one byte lane of a word. -/
abbrev Byte := BitVec 8

/-- A word of the setpoint RAM and of the memory bus. -/
abbrev Word := BitVec 16

/-- An 18-bit word address: 262,144 words. -/
abbrev Addr := BitVec 18

/-- A page number: 1,024 pages of 256 words; page arithmetic wraps modulo 1,024. -/
abbrev PageNo := BitVec 10

/-- An offset within a page. -/
abbrev Offset := BitVec 8

/-- The number of a stabilised axis, 0 to 3. -/
abbrev AxisId := Fin 4

end Sys2Proof
end

