-- ==== Sys2Proof/Syntax.lean ====
section
/-! DEFINITION. The commands of the part: one constructor for each row of spec/opcode_table.json, with the operands that the
outside gives it. The table gives none: DESIGN CHOICE, safe (assumption log 2). -/

namespace Sys2Proof

/-- A vehicle inertial sensor, and the serial line it sends on: A on IA, B on IB. -/
inductive Source where
  | a
  | b
deriving DecidableEq, Repr

/-- The byte-lane enables of a transaction. -/
structure Lanes where
  high : Bool
  low  : Bool
deriving DecidableEq, Repr

/-- Both byte lanes enabled. -/
abbrev Lanes.both : Lanes := ⟨true, true⟩

/-- Neither byte lane enabled. -/
abbrev Lanes.neither : Lanes := ⟨false, false⟩

/-- A command of the part: an event at its pins, a transaction of the arm controller, or a step of its own (a timer expiry,
a grant of the arbiter, a ready of the RAM). Each docstring names the row and the rule of spec/opcode_table.json. -/
inductive Instr where
  /-- POWER_ON_RESET (R39): supply is applied. -/
  | powerOnReset
  /-- LINE_RESET (R108): RESET is asserted. -/
  | lineReset
  /-- RESET_END (R81): the reset ends; `straps` is what the ten PAGE strap pins show then. -/
  | resetEnd (straps : PageNo)
  /-- TIME_BASE_PULSE (R1): the Time Base gives its 1 ms pulse. -/
  | timeBasePulse
  /-- GOOD_BYTE (R5): a byte whose stop bit samples high ends on a line. -/
  | goodByte (line : Source) (byte : Byte)
  /-- FRAMING_ERROR (R2): a byte's stop bit samples low on a line. -/
  | framingError (line : Source)
  /-- BYTE_TIMEOUT (R6): more than 100 idle bit times pass on a line. -/
  | byteTimeout (line : Source)
  /-- INERTIAL_FRAME (R8): the complete frame in a line's frame buffer is checked. -/
  | inertialFrame (line : Source)
  /-- STALE_EXPIRY (R11): a source's stale timer expires. -/
  | staleExpiry (source : Source)
  /-- SILENCE_EXPIRY (R67): an axis's silence timer expires. -/
  | silenceExpiry (axis : AxisId)
  /-- DWELL_EXPIRY (R134): an axis's dwell timer expires. -/
  | dwellExpiry (axis : AxisId)
  /-- REFRESH_DEADLINE_EXPIRY (R57): an axis's refresh-deadline timer expires. -/
  | refreshDeadlineExpiry (axis : AxisId)
  /-- STAT_BLINK_TOGGLE (R142): the half-period of a blink pattern runs out. -/
  | statBlinkToggle
  /-- SETTLE_EXPIRY (R112): the settle timer expires. -/
  | settleExpiry
  /-- EXIT_HOLD_EXPIRY (R114): the exit-hold timer expires. -/
  | exitHoldExpiry
  /-- FRAME_LOST_EXPIRY (R137): the frame-lost timer expires. -/
  | frameLostExpiry
  /-- FRAME_PULSE (R145): a rising edge on the FRAME input. -/
  | framePulse
  /-- START (R64): the arm controller writes code 0x01 and the operand to COMMAND, both lanes. -/
  | start (operand : Byte)
  /-- STOP (R76): code 0x02. -/
  | stop (operand : Byte)
  /-- PARK (R73): code 0x03. -/
  | park (operand : Byte)
  /-- RELEASE (R75): code 0x04. -/
  | release (operand : Byte)
  /-- ZERO (R33): code 0x05; the part ignores the operand byte. -/
  | zero (operand : Byte)
  /-- EXCITE (R122): code 0x06; the part ignores the operand byte. -/
  | excite (operand : Byte)
  /-- TC_SET (R146): code 0x07; the part ignores the operand byte. -/
  | tcSet (operand : Byte)
  /-- SOURCE_RETURN (R15): code 0x08; the part ignores the operand byte. -/
  | sourceReturn (operand : Byte)
  /-- UNKNOWN_COMMAND (R161): a code from 0x09 to 0xFF. -/
  | unknownCommand (code operand : Byte)
  /-- APPLY (R159): the arm controller writes 0x00A5 to APPLY, both lanes. -/
  | apply
  /-- INTENT_WRITE (R91): a write decided by an INTENT window. -/
  | intentWrite (addr : Addr) (data : Word) (lanes : Lanes)
  /-- RING_CONSUMER (R153): a write to the RING_CONSUMER word of the report page. -/
  | ringConsumer (data : Word) (lanes : Lanes)
  /-- CONTROLLER_WRITE (R86): any write of the arm controller, to any address; the part tells writes apart by address alone. -/
  | controllerWrite (addr : Addr) (data : Word) (lanes : Lanes)
  /-- CONTROLLER_READ (R100): a read of the arm controller. -/
  | controllerRead (addr : Addr) (lanes : Lanes)
  /-- QUEUE_HEAD_GRANT (R105): the arbiter grants the controller queue head. -/
  | queueHeadGrant
  /-- REFRESH_GRANT (R103): the arbiter grants a refresh, lowest axis first. -/
  | refreshGrant
  /-- BOOST_GRANT (R116): the arbiter grants the boost request. -/
  | boostGrant
  /-- REPORT_WORD_GRANT (R162): the arbiter grants the lowest dirty report word. -/
  | reportWordGrant
  /-- RING_WORD_GRANT (R152): the arbiter grants the next staged motion record word. -/
  | ringWordGrant
  /-- SWEEP_READ_GRANT (R157): the arbiter grants the sweep read at the sweep position. -/
  | sweepReadGrant
  /-- WRITE_COMPLETE (R102): the RAM gives ready for a write. -/
  | writeComplete
  /-- RING_WORD_DONE (R152): the RAM gives ready for a ring record word. -/
  | ringWordDone
  /-- SWEEP_READ_DONE (R157): the RAM gives ready for a sweep read. -/
  | sweepReadDone
  /-- READ_RETURN (R107): the RAM gives ready for a read of the arm controller. -/
  | readReturn
  /-- EVENT_PENDING (R164): the RAM gives ready for the arm controller's read of the EVENT_PENDING word. -/
  | eventPending
deriving DecidableEq, Repr

end Sys2Proof
end

