-- ==== Sys2Proof/Decode.lean ====
section
/-! DEFINITION. The command a word of the opcode table spells. spec/opcode_table.json gives NO row any bits: the part has no
command register of its own, and takes its commands as transactions, events and steps. The command CODES of the profile page's
COMMAND word (12.3) are no encoding of rows: they are data of a bus write, and Sys2Proof/Machine/Commands.lean reads them. -/

namespace Sys2Proof

/-- The command that the word `w` of `nbits` bits spells by the table's bits: none, since no row of the table has bits. -/
def decodeTableWord (nbits w : Nat) : Option Instr :=
  match nbits, w with
  | _, _ => none

end Sys2Proof
end

