-- ==== Sys2Proof/Machine/State.lean ====
section
/-! DEFINITION. The state of the part, block by block as 00_scope.md ("Block overview") names them, the setpoint RAM on its
M-port, and the queue of commands that wait. Plain data. -/

namespace Sys2Proof.Machine

/-! ### Timers -/

/-- A timer counted in 1 ms pulses (R1): stopped (`none`), or running with that many pulses to go. At `some 0` the timer has run
out and its expiry, an event of its own, has not been taken yet. DEDUCED, safe: every order of the events that come together stays
open (assumption log 8). -/
abbrev Timer := Option Nat

/-- The state of the ZERO capture (2.1) and of the excitation burst (8.1): none in flight, or one in flight. -/
inductive RunState where
  | idle
  | running
deriving DecidableEq, Repr

/-! ### Link Receiver (chapter 1) -/

/-- Frame assembly of a line (1.3): HUNTING, or COLLECTING with the bytes that followed the sync, in the order received. The idle
count of R6 is kept exactly while COLLECTING. -/
inductive Assembly where
  | hunting
  | collecting (buffer : List Byte)
deriving DecidableEq, Repr

/-- The three states of a source (1.5). -/
inductive SourceState where
  | absent
  | live
  | stale
deriving DecidableEq, Repr

/-- The Link Receiver's record of one source and its line (R2 to R11). -/
structure Link where
  assembly   : Assembly
  state      : SourceState
  lastSeq    : Byte
  staleTimer : Timer
  satSeen    : Bool
deriving DecidableEq, Repr

/-- One thing for each source. -/
structure PerSource (α : Type) where
  a : α
  b : α
deriving DecidableEq, Repr

/-! ### Disturbance Estimator (chapter 2) -/

/-- Three signed numbers, one for each channel of a sensor. -/
structure Channels where
  x : Int
  y : Int
  z : Int
deriving DecidableEq, Repr

/-- The ZERO capture (2.1): its state, its source, running sums and count of arrivals. What the last three hold while IDLE, after an end,
is the model's: DESIGN CHOICE, unsafe (assumption log 17). -/
structure Capture where
  state  : RunState
  source : Source
  sums   : Channels
  count  : Nat
deriving DecidableEq, Repr

/-- The zero result shown in ZERO_RESULT, with the capture source unless it is NONE (R38). -/
inductive ZeroResult where
  | none
  | running (source : Source)
  | done (source : Source)
  | moving (source : Source)
  | source (source : Source)
deriving DecidableEq, Repr

/-! ### Axis Units (chapters 3 and 4) -/

/-- The four states of an axis. -/
inductive AxisState where
  | off
  | stabilising
  | coasting
  | held
deriving DecidableEq, Repr

/-- What imposed a hold (R69): COMMAND, or a fault class. -/
inductive Cause where
  | command
  | sourceLost
  | sourceFallback
  | controllerSilent
  | limitDwell
  | refreshLate
deriving DecidableEq, Repr

/-- A hold-cause set: each member at most once, in no order (R69). -/
structure Causes where
  command          : Bool
  sourceLost       : Bool
  sourceFallback   : Bool
  controllerSilent : Bool
  limitDwell       : Bool
  refreshLate      : Bool
deriving DecidableEq, Repr

/-- The fault classes that belong to an axis (R131). -/
inductive AxisClass where
  | controllerSilent
  | limitDwell
  | refreshLate
deriving DecidableEq, Repr

/-- The record of one axis (3.1, 4.1), with its disturbance angle (2.1) and the Fault Monitor's active flags of its three axis
classes (R131). -/
structure Axis where
  state            : AxisState
  causes           : Causes
  theta            : Int
  intent           : Word
  intentValid      : Bool
  outAddr          : Option Addr
  output           : Int
  correction       : Int
  rate             : Bool
  limit            : Bool
  refreshCount     : Nat
  refreshPending   : Bool
  deadlineTimer    : Timer
  silenceTimer     : Timer
  dwellTimer       : Timer
  silentActive     : Bool
  limitDwellActive : Bool
  lateActive       : Bool
deriving DecidableEq, Repr

/-! ### Memory Path (chapter 6) -/

/-- A transaction of the arm controller at the C-port. -/
inductive BusTxn where
  | write (addr : Addr) (data : Word) (lanes : Lanes)
  | read (addr : Addr) (lanes : Lanes)
deriving DecidableEq, Repr

/-- An entry of the controller queue (6.2): a transaction as accepted, and its intent binding. -/
structure QEntry where
  txn  : BusTxn
  bind : Option AxisId
deriving DecidableEq, Repr

/-- The C-port and the controller queue. `offered` is what the arm controller has offered and the C-port has not yet accepted,
its ready held back (R99, R100); `readData` is the word last driven to the arm controller at a read's return (R107). Both are the
model's own fields: DESIGN CHOICE, `offered` safe, the reset value of `readData` unsafe (assumption logs 9 and 10). -/
structure CPort where
  queue    : List QEntry
  offered  : List BusTxn
  readData : Option Word
deriving DecidableEq, Repr

/-- What a transaction in progress on the M-port is. A ring record word carries whether its record is still the one staged: a ring
restart or a reset makes its ready advance nothing (R154). -/
inductive MKind where
  | controllerWrite
  | controllerRead (bind : Option AxisId)
  | refresh (axis : AxisId)
  | boost
  | report
  | ringWord (current : Bool)
  | sweepRead
deriving DecidableEq, Repr

/-- A transaction in progress on the M-port, its address, data and lanes as settled at its grant (R102). The data of a read is 0, since a read
drives none: DESIGN CHOICE, unsafe (assumption log 28). -/
structure MTxn where
  kind  : MKind
  addr  : Addr
  data  : Word
  lanes : Lanes
deriving DecidableEq, Repr

/-- The M-port and its arbiter: the transaction in progress, the starvation count (R104), and the model's own count of writes that
resets have ended, which picks the free value of `Config.cutWriteLands`: DESIGN CHOICE, safe (assumption log 1). -/
structure MPort where
  busy       : Option MTxn
  starvation : Nat
  cuts       : Nat
deriving DecidableEq, Repr

/-! ### Severity Monitor (chapter 7) -/

/-- The four severity states (7.2). -/
inductive SeverityState where
  | calm
  | boosting
  | rough
  | easing
deriving DecidableEq, Repr

/-- What the Severity Monitor holds (7.1). -/
structure Severity where
  level         : Nat
  state         : SeverityState
  settleTimer   : Timer
  exitHoldTimer : Timer
  boostHeld     : Option Word
deriving DecidableEq, Repr

/-! ### Excitation Generator (chapter 8) -/

/-- The two waveforms. -/
inductive Waveform where
  | square
  | noise
deriving DecidableEq, Repr

/-- The burst record (8.1). What it holds while IDLE, after an end, is the model's but for its x: DESIGN CHOICE, unsafe (assumption log
17). -/
structure Burst where
  state      : RunState
  axis       : AxisId
  waveform   : Waveform
  amplitude  : Nat
  halfPeriod : Nat
  remaining  : Nat
  phase      : Nat
  noise      : BitVec 15
  x          : Int
deriving DecidableEq, Repr

/-- The excite result shown in EXCITE_RESULT, with the burst axis unless it is NONE (R129). -/
inductive ExciteResult where
  | none
  | running (axis : AxisId)
  | done (axis : AxisId)
  | aborted (axis : AxisId)
deriving DecidableEq, Repr

/-! ### Fault Monitor (chapter 9) -/

/-- The six fault classes, in the order of their numbers 1 to 6 (9.1). -/
inductive FaultClass where
  | sourceLost
  | sourceFallback
  | controllerSilent
  | limitDwell
  | refreshLate
  | frameLost
deriving DecidableEq, Repr

/-- The patterns of the STAT output (R142). -/
inductive StatPattern where
  | dark
  | steady
  | slowBlink
  | fastBlink
deriving DecidableEq, Repr

/-- The Fault Monitor: the device classes' active flags, the headline, and the STAT pattern with the lamp and the timer of its
present half. The axis classes' flags stand in each axis's record. -/
structure Faults where
  sourceLost     : Bool
  sourceFallback : Bool
  frameLost      : Bool
  headline       : Option FaultClass
  pattern        : StatPattern
  lampLit        : Bool
  blinkTimer     : Timer
deriving DecidableEq, Repr

/-! ### Timecode Counter and Ring Writer (chapter 10) -/

/-- A time: hours, minutes, seconds, frames. -/
structure Time where
  hours   : Nat
  minutes : Nat
  seconds : Nat
  frames  : Nat
deriving DecidableEq, Repr

/-- The frame rates a profile can name (10.1). -/
inductive FrameRate where
  | fps24
  | fps25
  | fps30
deriving DecidableEq, Repr

/-- The Timecode Counter (10.1), with the frame-lost measure (R137). -/
structure Timecode where
  time           : Time
  valid          : Bool
  pendingSet     : Option Time
  rate           : FrameRate
  frameLostTimer : Timer
  frameLost      : Bool
deriving DecidableEq, Repr

/-- The Ring Writer (10.2): producer and consumer indices, the staging buffer, empty or one record's words, the staged slot, and the write
position. The manual moves the write position at two moments: `granted` counts the staged words granted (R103), `position` those whose
write has completed (10.2, R152): DESIGN CHOICE, safe (assumption log 11). What slot, `granted` and `position` hold while the staging buffer
is empty, after a publication or a ring restart, is the model's: DESIGN CHOICE, unsafe (assumption log 25). -/
structure Ring where
  producer : Nat
  consumer : Nat
  staged   : Option (Vector Word 12)
  slot     : Nat
  granted  : Nat
  position : Nat
deriving DecidableEq, Repr

/-! ### Profile Unit and Report Writer (chapter 11) -/

/-- The 256 words of a profile page: the shadow, or the active profile. -/
structure Page where
  words : Vector Word 256
deriving DecidableEq, Repr

/-- The sweep state (R157): SWEEPING at a position, or DONE. -/
inductive Sweep where
  | sweeping (position : Offset)
  | done
deriving DecidableEq, Repr

/-- Command results (12.3). -/
inductive CmdResult where
  | done
  | accepted
  | notReady
  | noProfile
  | badAxis
  | unknown
  | disabled
  | wrongState
  | noIntent
  | noSource
  | faultActive
  | busy
  | badParam
  | badTime
deriving DecidableEq, Repr

/-- Apply results (12.3). -/
inductive ApplyResult where
  | none
  | applied
  | notReady
  | range
  | priority
  | policy
  | structuralBusy
deriving DecidableEq, Repr

/-- The Profile Unit: the shadow and its touched marks, the active profile (`none` while the profile state is EMPTY), the sweep,
and the last command's and the last apply's result as COMMAND_RESULT and APPLY_RESULT show them. -/
structure ProfileUnit where
  shadow      : Page
  touched     : Vector Bool 256
  active      : Option Page
  sweep       : Sweep
  cmdCode     : Byte
  cmdResult   : CmdResult
  applyResult : ApplyResult
  applyOffset : Offset
deriving DecidableEq, Repr

/-- The fifteen events of the pending event set, in the order of their bits in EVENT_PENDING (R163, 12.2). -/
inductive Event where
  | commandDone
  | applyDone
  | sweepDone
  | axisState
  | faultRaised
  | faultCleared
  | sourceSwitch
  | zeroDone
  | exciteDone
  | severityEnter
  | severityLeave
  | tcApplied
  | ringRecord
  | ringOverrun
  | strayWrite
deriving DecidableEq, Repr

/-- The Report Writer: the pending event set, as the fifteen low bits of EVENT_PENDING show it, and the dirty mark of each report
word by its offset. The words' copies are the owners' own state (`State.reportWord`, Machine/Flags.lean). -/
structure Report where
  events : BitVec 15
  dirty  : Vector Bool 64
deriving DecidableEq, Repr

/-! ### The setpoint RAM -/

/-- The setpoint RAM as byte lanes: the low lane of word `a` is cell `2a`, its high lane cell `2a + 1`. Only cells that do not hold
0, what an unlisted cell reads as, are listed, addresses strictly rising: DESIGN CHOICE, unsafe (assumption log 3). -/
abbrev Memory := List Host.Cell

/-! ### The whole -/

/-- The state of the part. `pending` is the queue of commands that wait, first in, first out. `resetHeld` says that a reset stands
(power-on, or RESET held) and has not ended: DEDUCED, safe (assumption log 23). What other state determines (ATTN, the enable set, the
copies of the report words, the window table, the ring region, the tuning in force) is computed from it: DEDUCED, safe (assumption log
15). -/
structure State where
  pending      : List Instr
  resetHeld    : Bool
  strapPage    : PageNo
  links        : PerSource Link
  selected     : Option Source
  bias         : PerSource Channels
  capture      : Capture
  zeroResult   : ZeroResult
  axes         : Vector Axis 4
  cport        : CPort
  mport        : MPort
  severity     : Severity
  burst        : Burst
  exciteResult : ExciteResult
  faults       : Faults
  timecode     : Timecode
  ring         : Ring
  profile      : ProfileUnit
  report       : Report
  ram          : Memory
deriving DecidableEq, Repr

/-! ### How a step can stop -/

/-- The faults of the part: none. The bus has no error or abort signal (R102), and the manual names no condition that stops the
part; its "fault classes" (chapter 9) are flags of its state, not stops of the machine. DEDUCED, unsafe if the part can stop
(assumption log 19). -/
inductive Fault where
deriving DecidableEq, Repr

/-- Why a command has no meaning. -/
inductive Refusal where
  /-- Raised by the dispatcher for a command that is not modelled yet, by its name in spec/opcode_table.json. Safe: the machine
  stops where the part goes on. No arm of `exec` raises it. -/
  | notModelled (mnemonic : String)
deriving DecidableEq, Repr

/-! ### Reset -/

/-- The reset state of a source's record (R19). -/
def Link.reset : Link :=
  { assembly := .hunting, state := .absent, lastSeq := 0, staleTimer := none, satSeen := false }

/-- Three zeros. -/
def Channels.zero : Channels := { x := 0, y := 0, z := 0 }

/-- The empty cause set. -/
def Causes.empty : Causes :=
  { command := false, sourceLost := false, sourceFallback := false, controllerSilent := false, limitDwell := false,
    refreshLate := false }

/-- The reset state of an axis (R39, R59, R79, R144). -/
def Axis.reset : Axis :=
  { state := .off, causes := .empty, theta := 0, intent := 0, intentValid := false, outAddr := none, output := 0,
    correction := 0, rate := false, limit := false, refreshCount := 0, refreshPending := false, deadlineTimer := none,
    silenceTimer := none, dwellTimer := none, silentActive := false, limitDwellActive := false, lateActive := false }

/-- The reset state of the Severity Monitor (R120). -/
def Severity.reset : Severity :=
  { level := 0, state := .calm, settleTimer := none, exitHoldTimer := none, boostHeld := none }

/-- The reset state of the Fault Monitor (R144). -/
def Faults.reset : Faults :=
  { sourceLost := false, sourceFallback := false, frameLost := false, headline := none, pattern := .dark, lampLit := false,
    blinkTimer := none }

/-- The reset state of the ZERO capture (R39); the manual gives the capture source no reset value, and A is the model's: DESIGN CHOICE,
unsafe (assumption log 17). -/
def Capture.reset : Capture := { state := .idle, source := .a, sums := .zero, count := 0 }

/-- The seed of the NOISE waveform: all fifteen bits set (R122). -/
def noiseSeed : BitVec 15 := 0x7FFF

/-- The reset state of the burst record (R130); the manual gives its axis, waveform, amplitude and half-period no reset values, and 0,
SQUARE, 0 and 1, the lowest of their ranges, are the model's: DESIGN CHOICE, unsafe (assumption log 17). -/
def Burst.reset : Burst :=
  { state := .idle, axis := 0, waveform := .square, amplitude := 0, halfPeriod := 1, remaining := 0, phase := 0, noise := noiseSeed,
    x := 0 }

/-- The reset state of the Ring Writer (R155): indices and write position 0, the staging buffer empty; the manual gives the staged slot no
reset value, and 0 is the model's: DESIGN CHOICE, unsafe (assumption log 25). -/
def Ring.reset : Ring := { producer := 0, consumer := 0, staged := none, slot := 0, granted := 0, position := 0 }

/-- A page of zeros. -/
def Page.zero : Page := { words := Vector.replicate 256 0 }

/-- The reset state of the Profile Unit (R156, 12.3). -/
def ProfileUnit.reset : ProfileUnit :=
  { shadow := .zero, touched := Vector.replicate 256 false, active := none, sweep := .sweeping 0, cmdCode := 0,
    cmdResult := .done, applyResult := .none, applyOffset := 0 }

/-- Whether the part writes the report word at an offset (R162): 0x00 to 0x16, and the four words at 0x20 + 8a. -/
def reportsOffset (offset : Nat) : Bool := offset ≤ 0x16 || (0x20 ≤ offset && offset < 0x40 && offset % 8 < 4)

/-- The reset state of the Report Writer: nothing pending, every word it writes dirty (R162, R163). -/
def Report.reset : Report := { events := 0, dirty := Vector.ofFn fun i => reportsOffset i.val }

/-- The reset state of the C-port (R108). -/
def CPort.reset : CPort := { queue := [], offered := [], readData := none }

/-- The Timecode Counter after the power-on reset (R144, R149). -/
def Timecode.powerOn : Timecode :=
  { time := { hours := 0, minutes := 0, seconds := 0, frames := 0 }, valid := false, pendingSet := none, rate := .fps30,
    frameLostTimer := none, frameLost := false }

/-- The part after the power-on reset, before the reset ends: the first command that changes anything but the timecode is
RESET_END, which reads the straps. `strapPage` is 0 until then: DESIGN CHOICE, unsafe (assumption log 4). -/
def State.reset : State :=
  { pending := [], resetHeld := true, strapPage := 0, links := ⟨.reset, .reset⟩, selected := none, bias := ⟨.zero, .zero⟩,
    capture := .reset, zeroResult := .none, axes := Vector.replicate 4 .reset, cport := .reset,
    mport := { busy := none, starvation := 0, cuts := 0 }, severity := .reset, burst := .reset, exciteResult := .none,
    faults := .reset, timecode := .powerOn, ring := .reset, profile := .reset, report := .reset, ram := [] }

end Sys2Proof.Machine
end

