-- ==== Sys2Proof/Machine/Ops.lean ====
section
/-! DEFINITION. The arithmetic the manual's conventions name (00_scope.md), timers (R1), byte lanes, and the named accesses to the
parts of the state that come in ones per source or per axis. -/

namespace Sys2Proof.Machine

/-! ### Arithmetic (00_scope.md, Conventions) -/

/-- Rounding `p / s` half away from zero: the magnitude is the whole part of `(|p| + s/2) / s`, the sign that of `p`. -/
def roundHalfAway (p : Int) (s : Nat) : Int := p.sign * (((p.natAbs + s / 2) / s : Nat) : Int)

/-- Clamping into `lo` to `hi`. -/
def clamp (lo hi v : Int) : Int := if hi < v then hi else if v < lo then lo else v

/-- Saturation to ±32,767. -/
def saturate (v : Int) : Int := clamp (-32767) 32767 v

/-- A signed number as a 16-bit word. -/
def word16 (v : Int) : Word := BitVec.ofInt 16 v

/-- The high byte of a word. -/
def highByte (w : Word) : Byte := w.extractLsb' 8 8

/-- The low byte of a word. -/
def lowByte (w : Word) : Byte := w.extractLsb' 0 8

/-- A word from its two bytes. -/
def ofBytes (high low : Byte) : Word := high ++ low

/-- Each enabled byte lane of `data` replaces the corresponding byte of `old`; a disabled lane leaves it (R88, R89, R92). -/
def mergeLanes (lanes : Lanes) (data old : Word) : Word :=
  ofBytes (if lanes.high then highByte data else highByte old) (if lanes.low then lowByte data else lowByte old)

/-! ### Timers (R1) -/

/-- One pulse of the Time Base: a running timer has one pulse fewer to go, and a timer that has run out waits for its expiry. -/
def Timer.tick (t : Timer) : Timer := t.map fun n => n - 1

/-- A timer that has run out: its expiry comes with the pulse that brought it here. -/
def Timer.due (t : Timer) : Bool := t == some 0

/-- Starting a timer whose length 0 means that it is not run at all (R66). -/
def Timer.startUnlessZero (ms : Nat) : Timer := if ms = 0 then none else some ms

/-! ### Per source, per axis -/

/-- The other source. -/
def otherSource : Source → Source
  | .a => .b
  | .b => .a

/-- The entry of a source. -/
def PerSource.get {α : Type} (p : PerSource α) : Source → α
  | .a => p.a
  | .b => p.b

/-- The entry of a source replaced. -/
def PerSource.set {α : Type} (p : PerSource α) (src : Source) (v : α) : PerSource α :=
  match src with
  | .a => { p with a := v }
  | .b => { p with b := v }

/-- The record of a source. -/
def State.link (s : State) (src : Source) : Link := s.links.get src

/-- The record of a source replaced. -/
def State.setLink (s : State) (src : Source) (l : Link) : State := { s with links := s.links.set src l }

/-- The record of an axis. -/
def State.axis (s : State) (a : AxisId) : Axis := s.axes.get a

/-- The record of an axis replaced. -/
def State.setAxis (s : State) (a : AxisId) (ax : Axis) : State := { s with axes := s.axes.set a.val ax a.isLt }

/-- Something done for each of the four axes, lowest first. -/
def forAxes (f : AxisId → State → State) (s : State) : State := f 3 (f 2 (f 1 (f 0 s)))

/-- Whether something holds of any axis. -/
def anyAxis (p : AxisId → Bool) : Bool := p 0 || p 1 || p 2 || p 3

/-- An axis is active while it is STABILISING, COASTING or HELD. -/
def AxisState.active (st : AxisState) : Bool := st != .off

/-- Whether an axis of the part is active. -/
def State.axisActive (s : State) (a : AxisId) : Bool := (s.axis a).state.active

/-- Whether an axis composes at arrivals and intent writes: STABILISING or COASTING (R47). -/
def AxisState.composes (st : AxisState) : Bool := st == .stabilising || st == .coasting

/-- The profile state is ACTIVE. -/
def State.profileActive (s : State) : Bool := s.profile.active.isSome

/-- The active profile; while the profile state is EMPTY, a page of zeros, which no rule reads: DESIGN CHOICE, safe (assumption log
18). -/
def State.page (s : State) : Page := s.profile.active.getD .zero

end Sys2Proof.Machine
end

