-- ==== Sys2Proof/Machine/Operands.lean ====
section
/-! DEFINITION. The fields of the profile page, each read from the bits that chapter 12 assigns to it (R165), and the numbering of
pages, sources and axes that addresses and words use. -/

namespace Sys2Proof.Machine

/-- A word of a page. -/
def Page.word (p : Page) (w : Offset) : Word := p.words[w.toNat]'w.isLt

/-- A word of a page replaced. -/
def Page.setWord (p : Page) (w : Offset) (v : Word) : Page := { words := p.words.set w.toNat v w.isLt }

/-- Bit `i` of a word of a page. -/
def Page.bit (p : Page) (w : Offset) (i : Nat) : Bool := (p.word w).getLsbD i

/-- The high byte of a word of a page, unsigned. -/
def Page.high (p : Page) (w : Offset) : Nat := (highByte (p.word w)).toNat

/-- The low byte of a word of a page, unsigned. -/
def Page.low (p : Page) (w : Offset) : Nat := (lowByte (p.word w)).toNat

/-! ### GENERAL, EVENT_ENABLE and the ring (12.1) -/

def Page.primary (p : Page) : Source := if p.bit 0x02 0 then .b else .a
def Page.fallback (p : Page) : Bool := p.bit 0x02 1
/-- The frame rate the code of GENERAL names; code 3 is out of range (10.1). -/
def Page.frameRate (p : Page) : Option FrameRate :=
  match ((p.word 0x02).extractLsb' 2 2).toNat with
  | 0 => some .fps24
  | 1 => some .fps25
  | 2 => some .fps30
  | _ => none
def Page.ringEnable (p : Page) : Bool := p.bit 0x02 4
/-- The events of EVENT_ENABLE: its bits 14 to 0. -/
def Page.eventEnable (p : Page) : BitVec 15 := (p.word 0x03).extractLsb' 0 15
def Page.ringBase (p : Page) : Nat := (p.word 0x04).toNat
def Page.ringLength (p : Page) : Nat := (p.word 0x05).toNat

/-- Frames per second. -/
def FrameRate.perSecond : FrameRate → Nat
  | .fps24 => 24
  | .fps25 => 25
  | .fps30 => 30

/-! ### Severity and boost (7.1, 12.1) -/

def Page.threshold (p : Page) : Nat := (p.word 0x06).toNat
def Page.settleMs (p : Page) : Nat := p.high 0x07
def Page.entryLevel (p : Page) : Nat := p.low 0x07
def Page.exitHoldMs (p : Page) : Nat := 100 * p.low 0x08
def Page.boostEnable (p : Page) : Bool := p.bit 0x09 15
def Page.boostAddr (p : Page) : Addr := (p.word 0x09).extractLsb' 0 2 ++ p.word 0x0A
def Page.boostNormal (p : Page) : Word := p.word 0x0B
def Page.boostActive (p : Page) : Word := p.word 0x0C

/-! ### Faults (9.5, R141) -/

/-- The number of a fault class, 1 to 6 (9.1). -/
def FaultClass.number : FaultClass → Nat
  | .sourceLost => 1
  | .sourceFallback => 2
  | .controllerSilent => 3
  | .limitDwell => 4
  | .refreshLate => 5
  | .frameLost => 6

/-- The fault class of a number. -/
def FaultClass.ofNumber : Nat → Option FaultClass
  | 1 => some .sourceLost
  | 2 => some .sourceFallback
  | 3 => some .controllerSilent
  | 4 => some .limitDwell
  | 5 => some .refreshLate
  | 6 => some .frameLost
  | _ => none

/-- The six classes in the order of their numbers. -/
def FaultClass.all : List FaultClass :=
  [.sourceLost, .sourceFallback, .controllerSilent, .limitDwell, .refreshLate, .frameLost]

/-- The policies a field of FAULT_POLICY can name (9.5); `invalid` is field value 3, which no accepted profile holds: DESIGN CHOICE, safe
(assumption log 18). -/
inductive Policy where
  | continue
  | holdAxis
  | holdAll
  | invalid
deriving DecidableEq, Repr

/-- The policy of class n: bits 2n − 1 to 2n − 2 of FAULT_POLICY. -/
def Page.policy (p : Page) (c : FaultClass) : Policy :=
  match ((p.word 0x0D).extractLsb' (2 * c.number - 2) 2).toNat with
  | 0 => .continue
  | 1 => .holdAxis
  | 2 => .holdAll
  | _ => .invalid

/-- The policies each class allows (9.1). -/
def FaultClass.allows (c : FaultClass) (po : Policy) : Bool :=
  match c, po with
  | _, .invalid => false
  | _, .continue => true
  | .controllerSilent, _ | .limitDwell, _ | .refreshLate, _ => true
  | .sourceLost, .holdAll | .sourceFallback, .holdAll => true
  | _, _ => false

/-- The six fields of the PRIORITY words, the highest priority first. -/
def Page.priorityFields (p : Page) : List Nat :=
  [(p.word 0x0E).extractLsb' 0 4, (p.word 0x0E).extractLsb' 4 4, (p.word 0x0E).extractLsb' 8 4, (p.word 0x0E).extractLsb' 12 4,
    (p.word 0x0F).extractLsb' 0 4, (p.word 0x0F).extractLsb' 4 4].map BitVec.toNat

/-- The priority list of a profile. -/
def Page.priorityList (p : Page) : List FaultClass := p.priorityFields.filterMap FaultClass.ofNumber

def Page.stillness (p : Page) : Nat := (p.word 0x10).toNat

/-! ### Windows (5.2, 12.1) -/

/-- The two kinds of window. -/
inductive WindowKind where
  | intent
  | guard
deriving DecidableEq, Repr

/-- An entry of the window table. -/
structure Window where
  valid : Bool
  kind  : WindowKind
  axis  : AxisId
  base  : Addr
  mask  : Addr
deriving DecidableEq, Repr

/-- An axis number from two bits. -/
def axisOfBits (b : BitVec 2) : AxisId := b.toFin

/-- Window `w` of a profile, its three words at 0x20 + 3w. -/
def Page.window (p : Page) (w : Fin 8) : Window :=
  let w0 := p.word (BitVec.ofNat 8 (0x20 + 3 * w.val))
  { valid := w0.getLsbD 15
    kind := if w0.getLsbD 14 then .guard else .intent
    axis := axisOfBits (w0.extractLsb' 12 2)
    base := w0.extractLsb' 0 2 ++ p.word (BitVec.ofNat 8 (0x21 + 3 * w.val))
    mask := w0.extractLsb' 2 2 ++ p.word (BitVec.ofNat 8 (0x22 + 3 * w.val)) }

/-- The window table of a profile, entry 0 first. -/
def Page.windows (p : Page) : List Window :=
  [p.window 0, p.window 1, p.window 2, p.window 3, p.window 4, p.window 5, p.window 6, p.window 7]

/-! ### Axis blocks (12.1) -/

/-- The two resume modes (4.1). -/
inductive ResumeMode where
  | tracked
  | reset
deriving DecidableEq, Repr

/-- The offset of field `i` of the block of axis `a`. -/
def axisOffset (a : AxisId) (i : Nat) : Offset := BitVec.ofNat 8 (0x40 + 0x20 * a.val + i)

def Page.axisWord (p : Page) (a : AxisId) (i : Nat) : Word := p.word (axisOffset a i)
def Page.enabled (p : Page) (a : AxisId) : Bool := p.bit (axisOffset a 0) 0
def Page.resumeMode (p : Page) (a : AxisId) : ResumeMode := if p.bit (axisOffset a 0) 1 then .reset else .tracked
def Page.readback (p : Page) (a : AxisId) : Bool := p.bit (axisOffset a 0) 2
def Page.gain (p : Page) (a : AxisId) : Nat := (p.axisWord a 1).toNat
/-- The mixing row M[a][x], M[a][y], M[a][z]. -/
def Page.mixing (p : Page) (a : AxisId) : Channels :=
  { x := (p.axisWord a 2).toInt, y := (p.axisWord a 3).toInt, z := (p.axisWord a 4).toInt }
def Page.kCalm (p : Page) (a : AxisId) : Nat := p.high (axisOffset a 5)
def Page.kRough (p : Page) (a : AxisId) : Nat := p.low (axisOffset a 5)
def Page.stepCalm (p : Page) (a : AxisId) : Int := (p.axisWord a 6).toInt
def Page.stepRough (p : Page) (a : AxisId) : Int := (p.axisWord a 7).toInt
def Page.softLo (p : Page) (a : AxisId) : Int := (p.axisWord a 8).toInt
def Page.softHi (p : Page) (a : AxisId) : Int := (p.axisWord a 9).toInt
def Page.silenceMs (p : Page) (a : AxisId) : Nat := 10 * p.low (axisOffset a 10)
def Page.dwellMs (p : Page) (a : AxisId) : Nat := 10 * p.low (axisOffset a 11)
def Page.divider (p : Page) (a : AxisId) : Nat := p.low (axisOffset a 12)

/-- The soft limits' clamp (R43, R49). -/
def Page.softClamp (p : Page) (a : AxisId) (v : Int) : Int := clamp (p.softLo a) (p.softHi a) v

/-! ### The severity state's choice (R115) -/

/-- The rough values are in force in ROUGH and EASING. -/
def SeverityState.usesRough : SeverityState → Bool
  | .calm | .boosting => false
  | .rough | .easing => true

/-- The leak shift in force (R26). -/
def Page.leakShift (p : Page) (a : AxisId) (sev : SeverityState) : Nat := if sev.usesRough then p.kRough a else p.kCalm a

/-- The step limit in force (R42). -/
def Page.stepLimit (p : Page) (a : AxisId) (sev : SeverityState) : Int := if sev.usesRough then p.stepRough a else p.stepCalm a

/-! ### Pages and the ring region (R81, R82) -/

/-- The page an address lies in. -/
def pageOf (addr : Addr) : PageNo := addr.extractLsb' 8 10

/-- The offset of an address within its page. -/
def offsetOf (addr : Addr) : Offset := addr.extractLsb' 0 8

/-- The address at an offset of a page. -/
def addrAt (page : PageNo) (w : Offset) : Addr := page ++ w

/-- The report page follows the profile page, modulo 1,024. -/
def reportPageOf (strap : PageNo) : PageNo := strap + 1

/-- The first address of the ring: the page RING_BASE names. -/
def Page.ringStart (p : Page) : Addr := BitVec.ofNat 18 (256 * p.ringBase)

/-- Whether a profile has a ring region: ring enable set and N other than 0 (R82). -/
def Page.hasRing (p : Page) : Bool := p.ringEnable && p.ringLength != 0

/-- Whether an address lies in the ring region of a profile: N × 12 consecutive addresses, wrapping past 0x3FFFF (R82). -/
def Page.inRing (p : Page) (addr : Addr) : Bool := p.hasRing && decide ((addr - p.ringStart).toNat < 12 * p.ringLength)

end Sys2Proof.Machine
end

