-- ==== Sys2Proof/Machine/Flags.lean ====
section
/-! DEFINITION. The Report Writer (11.5, 12.2): events, dirty marks, ATTN, and the content of every report word. -/

namespace Sys2Proof.Machine

/-! ### The report words -/

/-- The report words the part writes (R162, 12.2). -/
inductive ReportWord where
  | signature
  | revision
  | eventPending
  | commandResult
  | applyResult
  | profileState
  | sourceState
  | severity
  | activeFaults
  | headline
  | zeroResult
  | exciteResult
  | timecode0
  | timecode1
  | timecodeState
  | ringProducer
  | ringConsumer
  | biasX (source : Source)
  | biasY (source : Source)
  | biasZ (source : Source)
  | axisStatus (axis : AxisId)
  | intent (axis : AxisId)
  | output (axis : AxisId)
  | correction (axis : AxisId)
deriving DecidableEq, Repr

/-- The offset of a report word, below 0x40 (12.2). -/
def ReportWord.offset : ReportWord → Fin 64
  | .signature => 0x00
  | .revision => 0x01
  | .eventPending => 0x02
  | .commandResult => 0x03
  | .applyResult => 0x04
  | .profileState => 0x05
  | .sourceState => 0x06
  | .severity => 0x07
  | .activeFaults => 0x08
  | .headline => 0x09
  | .zeroResult => 0x0A
  | .exciteResult => 0x0B
  | .timecode0 => 0x0C
  | .timecode1 => 0x0D
  | .timecodeState => 0x0E
  | .ringProducer => 0x0F
  | .ringConsumer => 0x10
  | .biasX .a => 0x11
  | .biasY .a => 0x12
  | .biasZ .a => 0x13
  | .biasX .b => 0x14
  | .biasY .b => 0x15
  | .biasZ .b => 0x16
  | .axisStatus a => ⟨0x20 + 8 * a.val, by omega⟩
  | .intent a => ⟨0x21 + 8 * a.val, by omega⟩
  | .output a => ⟨0x22 + 8 * a.val, by omega⟩
  | .correction a => ⟨0x23 + 8 * a.val, by omega⟩

/-- Every report word the part writes, lowest offset first. -/
def ReportWord.all : List ReportWord :=
  [.signature, .revision, .eventPending, .commandResult, .applyResult, .profileState, .sourceState, .severity, .activeFaults,
    .headline, .zeroResult, .exciteResult, .timecode0, .timecode1, .timecodeState, .ringProducer, .ringConsumer,
    .biasX .a, .biasY .a, .biasZ .a, .biasX .b, .biasY .b, .biasZ .b,
    .axisStatus 0, .intent 0, .output 0, .correction 0, .axisStatus 1, .intent 1, .output 1, .correction 1,
    .axisStatus 2, .intent 2, .output 2, .correction 2, .axisStatus 3, .intent 3, .output 3, .correction 3]

/-- The dirty mark of a report word. -/
def State.isDirty (s : State) (w : ReportWord) : Bool := s.report.dirty[w.offset.val]

/-- Marking a report word dirty. -/
def State.mark (s : State) (w : ReportWord) : State :=
  { s with report := { s.report with dirty := s.report.dirty.set w.offset.val true } }

/-- Marking a report word dirty where a condition holds. -/
def State.markIf (s : State) (c : Bool) (w : ReportWord) : State := if c then s.mark w else s

/-- Clearing the dirty mark of a report word. -/
def State.unmark (s : State) (w : ReportWord) : State :=
  { s with report := { s.report with dirty := s.report.dirty.set w.offset.val false } }

/-- The dirty report word of the lowest offset. -/
def State.lowestDirty (s : State) : Option ReportWord := ReportWord.all.find? s.isDirty

/-! ### Events and ATTN (R163) -/

/-- The bit of an event in EVENT_PENDING and EVENT_ENABLE (12.2). -/
def Event.bit : Event → Nat
  | .commandDone => 0
  | .applyDone => 1
  | .sweepDone => 2
  | .axisState => 3
  | .faultRaised => 4
  | .faultCleared => 5
  | .sourceSwitch => 6
  | .zeroDone => 7
  | .exciteDone => 8
  | .severityEnter => 9
  | .severityLeave => 10
  | .tcApplied => 11
  | .ringRecord => 12
  | .ringOverrun => 13
  | .strayWrite => 14

/-- The set that holds one event. -/
def Event.mask (e : Event) : BitVec 15 := 1#15 <<< e.bit

/-- Whether an event is pending. -/
def State.isPending (s : State) (e : Event) : Bool := s.report.events.getLsbD e.bit

/-- Raising an event: it joins the pending set; one already pending changes nothing. EVENT_PENDING is marked dirty at each change
of the set (R162, R163). -/
def State.raise (s : State) (e : Event) : State :=
  if s.isPending e then s
  else { s with report := { s.report with events := s.report.events ||| e.mask } }.mark .eventPending

/-- Removing from the pending set each event whose position is set in a word, and marking EVENT_PENDING dirty (R164). -/
def State.clearEvents (s : State) (w : Word) : State :=
  { s with report := { s.report with events := s.report.events &&& ~~~ w.extractLsb' 0 15 } }.mark .eventPending

/-- The enable set in force: COMMAND_DONE, APPLY_DONE and SWEEP_DONE while the profile is EMPTY, EVENT_ENABLE of the active profile
while it is ACTIVE (R163). -/
def State.enableSet (s : State) : BitVec 15 :=
  match s.profile.active with
  | none => 0b111
  | some p => p.eventEnable

/-- ATTN is asserted exactly when the pending set and the enable set share an event (R163). -/
def State.attn (s : State) : Bool := s.report.events &&& s.enableSet != 0

/-! ### Codes (12.2, 12.3) -/

def SourceState.code : SourceState → Nat
  | .absent => 0
  | .live => 1
  | .stale => 2

/-- The code of the selected source: 0 for NONE. -/
def selectedCode : Option Source → Nat
  | none => 0
  | some .a => 1
  | some .b => 2

def sourceCode : Source → Nat
  | .a => 0
  | .b => 1

def AxisState.code : AxisState → Nat
  | .off => 0
  | .stabilising => 1
  | .coasting => 2
  | .held => 3

def SeverityState.code : SeverityState → Nat
  | .calm => 0
  | .boosting => 1
  | .rough => 2
  | .easing => 3

def CmdResult.code : CmdResult → Byte
  | .done => 0x00
  | .accepted => 0x01
  | .notReady => 0x02
  | .noProfile => 0x03
  | .badAxis => 0x04
  | .unknown => 0x05
  | .disabled => 0x06
  | .wrongState => 0x07
  | .noIntent => 0x08
  | .noSource => 0x09
  | .faultActive => 0x0A
  | .busy => 0x0B
  | .badParam => 0x0C
  | .badTime => 0x0D

def ApplyResult.code : ApplyResult → Byte
  | .none => 0x00
  | .applied => 0x01
  | .notReady => 0x02
  | .range => 0x03
  | .priority => 0x04
  | .policy => 0x05
  | .structuralBusy => 0x06

/-- The word of ZERO_RESULT: the result in bits 2 to 0, its source in bit 8, 0 while it shows NONE (12.2, R166). -/
def ZeroResult.code : ZeroResult → Nat
  | .none => 0
  | .running src => 1 + 256 * sourceCode src
  | .done src => 2 + 256 * sourceCode src
  | .moving src => 3 + 256 * sourceCode src
  | .source src => 4 + 256 * sourceCode src

/-- The word of EXCITE_RESULT: the result in bits 1 to 0, its axis in bits 9 to 8, 0 while it shows NONE (12.2, R166). -/
def ExciteResult.code : ExciteResult → Nat
  | .none => 0
  | .running a => 1 + 256 * a.val
  | .done a => 2 + 256 * a.val
  | .aborted a => 3 + 256 * a.val

/-- The value of a bit at a place. -/
def bitAt (i : Nat) (b : Bool) : Nat := if b then 2 ^ i else 0

/-! ### Which fault classes are active (R131) -/

/-- Whether an axis class is active for an axis. -/
def Axis.classActive (ax : Axis) : AxisClass → Bool
  | .controllerSilent => ax.silentActive
  | .limitDwell => ax.limitDwellActive
  | .refreshLate => ax.lateActive

/-- Whether a fault class is active, an axis class counting when it is active for any axis (R131). -/
def State.classActive (s : State) : FaultClass → Bool
  | .sourceLost => s.faults.sourceLost
  | .sourceFallback => s.faults.sourceFallback
  | .controllerSilent => anyAxis fun a => (s.axis a).silentActive
  | .limitDwell => anyAxis fun a => (s.axis a).limitDwellActive
  | .refreshLate => anyAxis fun a => (s.axis a).lateActive
  | .frameLost => s.faults.frameLost

/-! ### The content of the report words (12.2) -/

/-- SOURCE_STATE (R18). -/
def State.sourceStateWord (s : State) : Nat :=
  s.links.a.state.code + 4 * s.links.b.state.code + 16 * selectedCode s.selected

/-- ACTIVE_FAULTS: bit n − 1 for class n (R140). -/
def State.activeFaultsWord (s : State) : Nat :=
  (FaultClass.all.map fun c => bitAt (c.number - 1) (s.classActive c)).sum

/-- AXIS_STATUS of an axis (R60). -/
def Axis.statusWord (ax : Axis) : Nat :=
  ax.state.code + bitAt 2 ax.causes.command + bitAt 3 ax.causes.sourceLost + bitAt 4 ax.causes.sourceFallback
    + bitAt 5 ax.causes.controllerSilent + bitAt 6 ax.causes.limitDwell + bitAt 7 ax.causes.refreshLate
    + bitAt 8 ax.rate + bitAt 9 ax.limit
    + bitAt 10 ax.silentActive + bitAt 11 ax.limitDwellActive + bitAt 12 ax.lateActive

/-- The two words of a time: hours and minutes, seconds and frames (12.2, 12.4). -/
def Time.word0 (t : Time) : Word := ofBytes (BitVec.ofNat 8 t.hours) (BitVec.ofNat 8 t.minutes)
def Time.word1 (t : Time) : Word := ofBytes (BitVec.ofNat 8 t.seconds) (BitVec.ofNat 8 t.frames)

/-- Whether the sweep is DONE. -/
def Sweep.isDone : Sweep → Bool
  | .done => true
  | .sweeping _ => false

/-- The copy of a report word, as its owner's state stands (R162, R166). -/
def State.reportWord (s : State) : ReportWord → Word
  | .signature => 0x4120
  | .revision => 0x0001
  | .eventPending => s.report.events.setWidth 16
  | .commandResult => ofBytes s.profile.cmdCode s.profile.cmdResult.code
  | .applyResult => ofBytes s.profile.applyResult.code s.profile.applyOffset
  | .profileState => BitVec.ofNat 16 (bitAt 0 s.profileActive + bitAt 1 s.profile.sweep.isDone)
  | .sourceState => BitVec.ofNat 16 s.sourceStateWord
  | .severity => ofBytes (BitVec.ofNat 8 s.severity.state.code) (BitVec.ofNat 8 s.severity.level)
  | .activeFaults => BitVec.ofNat 16 s.activeFaultsWord
  | .headline => BitVec.ofNat 16 ((s.faults.headline.map FaultClass.number).getD 0)
  | .zeroResult => BitVec.ofNat 16 s.zeroResult.code
  | .exciteResult => BitVec.ofNat 16 s.exciteResult.code
  | .timecode0 => s.timecode.time.word0
  | .timecode1 => s.timecode.time.word1
  | .timecodeState => BitVec.ofNat 16 (bitAt 0 s.timecode.valid + bitAt 1 s.timecode.pendingSet.isSome)
  | .ringProducer => BitVec.ofNat 16 s.ring.producer
  | .ringConsumer => BitVec.ofNat 16 s.ring.consumer
  | .biasX src => word16 (s.bias.get src).x
  | .biasY src => word16 (s.bias.get src).y
  | .biasZ src => word16 (s.bias.get src).z
  | .axisStatus a => BitVec.ofNat 16 (s.axis a).statusWord
  | .intent a => (s.axis a).intent
  | .output a => word16 (s.axis a).output
  | .correction a => word16 (s.axis a).correction

end Sys2Proof.Machine
end

