-- ==== Sys2Proof/Machine/Excitation.lean ====
section
/-! DEFINITION. The Excitation Generator (chapter 8). -/

namespace Sys2Proof.Machine

/-- The excitation of an axis: the current x of a burst on it, 0 on every other axis (R41, R126). -/
def State.excitation (s : State) (a : AxisId) : Int :=
  if s.burst.state = .running ∧ s.burst.axis = a then s.burst.x else 0

/-- A burst record whose burst has ended: IDLE, its current x 0 (R127, R128); the rest of the record stands: DESIGN CHOICE, unsafe
(assumption log 17). -/
def Burst.ended (b : Burst) : Burst := { b with state := .idle, x := 0 }

/-- The end of a burst that leaves a record: IDLE, its result shown, EXCITE_RESULT dirty and EXCITE_DONE raised (R127, R128). -/
def State.endBurst (s : State) (b : Burst) (r : ExciteResult) : State :=
  ({ s with burst := b.ended, exciteResult := r }.mark .exciteResult).raise .exciteDone

/-- A change of an axis's state aborts a burst in flight on it (R128). -/
def State.abortBurstOn (s : State) (a : AxisId) : State :=
  if s.burst.state = .running ∧ s.burst.axis = a then s.endBurst s.burst (.aborted a) else s

/-- The loss of the source aborts a burst in flight (R128). -/
def State.abortBurst (s : State) : State :=
  if s.burst.state = .running then s.endBurst s.burst (.aborted s.burst.axis) else s

/-- One step of the noise state: the exclusive-or of the two most significant bits enters as the new least significant bit (R125). -/
def noiseStep (n : BitVec 15) : BitVec 15 := (n <<< 1) ||| (BitVec.ofBool (n.getLsbD 14 ^^ n.getLsbD 13)).setWidth 15

/-- The waveform taking its next value at the end of a half-period (R124, R125). -/
def Burst.nextValue (b : Burst) : Burst :=
  match b.waveform with
  | .square => { b with x := -b.x }
  | .noise =>
    let n := noiseStep b.noise
    { b with noise := n, x := if n.getLsbD 0 then (b.amplitude : Int) else -(b.amplitude : Int) }

/-- One advance of the burst record (R123): remaining falls by 1, the phase count rises, and the end of a half-period takes the
waveform's next value. -/
def Burst.advance (b : Burst) : Burst :=
  let c := { b with remaining := b.remaining - 1, phase := b.phase + 1 }
  if c.phase = b.halfPeriod then { c with phase := 0 }.nextValue else c

/-- The generator's act at an arrival, after the compositions have taken their x (R123, R127). -/
def State.burstStep (s : State) : State :=
  if s.burst.state = .idle then s
  else if s.burst.advance.remaining = 0 then s.endBurst s.burst.advance (.done s.burst.axis)
  else { s with burst := s.burst.advance }

/-- The request of an EXCITE, from words 0xC0 to 0xC3 of the shadow (8.2). -/
structure ExciteRequest where
  axis       : Nat
  waveform   : Nat
  amplitude  : Nat
  halfPeriod : Nat
  length     : Nat
deriving DecidableEq, Repr

/-- The request words read. -/
def Page.exciteRequest (p : Page) : ExciteRequest :=
  { axis := p.low 0xC0, waveform := p.high 0xC0, amplitude := (p.word 0xC1).toNat, halfPeriod := (p.word 0xC2).toNat,
    length := (p.word 0xC3).toNat }

/-- The range tests of a request; BAD_PARAM where one fails (R121, test 1). -/
def ExciteRequest.inRange (r : ExciteRequest) : Bool :=
  r.axis ≤ 3 && r.waveform ≤ 1 && r.amplitude ≤ 4095 && 1 ≤ r.halfPeriod && r.halfPeriod ≤ 4095 && 1 ≤ r.length

/-- The axis number of a request in range. -/
def ExciteRequest.axisId (r : ExciteRequest) : AxisId := Fin.ofNat 4 r.axis

/-- The burst a request starts, its x at +A (R122). -/
def ExciteRequest.burst (r : ExciteRequest) : Burst :=
  { state := .running, axis := r.axisId, waveform := if r.waveform = 0 then .square else .noise, amplitude := r.amplitude,
    halfPeriod := r.halfPeriod, remaining := r.length, phase := 0, noise := noiseSeed, x := (r.amplitude : Int) }

/-- EXCITE's own tests and its effect (R121, R122). -/
def exciteCommand (s : State) : CmdResult × State :=
  let r := s.profile.shadow.exciteRequest
  if !r.inRange then (.badParam, s)
  else if s.burst.state = .running then (.busy, s)
  else if (s.axis r.axisId).state ≠ .stabilising then (.wrongState, s)
  else if s.selected = none then (.noSource, s)
  else (.accepted, { s with burst := r.burst, exciteResult := .running r.axisId }.mark .exciteResult)

end Sys2Proof.Machine
end

