-- ==== Sys2Proof/Machine/Faults.lean ====
section
/-! DEFINITION. The Fault Monitor (chapter 9), as far as it acts on its own state: the headline, the STAT pattern, and the setting and
clearing of active flags. What a policy does to the axes stands in Machine/Holds.lean. -/

namespace Sys2Proof.Machine

/-! ### Headline and STAT (R141, R142) -/

/-- The active class that stands first in the priority list of the active profile. -/
def State.firstActive (s : State) : Option FaultClass :=
  match s.profile.active with
  | none => none
  | some p => p.priorityList.find? s.classActive

/-- The STAT pattern that the profile state and the headline call for (R142). -/
def State.patternFor (s : State) : StatPattern :=
  match s.profile.active with
  | none => .dark
  | some p =>
    match s.faults.headline with
    | none => .steady
    | some c => if p.policy c = .continue then .slowBlink else .fastBlink

/-- The length of a half of a pattern; a pattern that does not blink has none. -/
def StatPattern.halfMs : StatPattern → Timer
  | .dark | .steady => none
  | .slowBlink => some 500
  | .fastBlink => some 125

/-- Judging the STAT pattern: a pattern other than the one in force begins now, a blink with its lit half; the same pattern's phase
runs on (R142). -/
def State.judgeStat (s : State) : State :=
  if s.patternFor = s.faults.pattern then s
  else { s with faults := { s.faults with
    pattern := s.patternFor, lampLit := decide (s.patternFor ≠ .dark), blinkTimer := s.patternFor.halfMs } }

/-- Finding the headline afresh: where it changes, HEADLINE is marked dirty and the STAT pattern is judged (R141). -/
def State.judgeHeadline (s : State) : State :=
  if s.firstActive = s.faults.headline then s
  else ({ s with faults := { s.faults with headline := s.firstActive } }.mark .headline).judgeStat

/-! ### Setting and clearing flags (R131, R140) -/

/-- The event a flag's change raises. -/
def flagEvent (on : Bool) : Event := if on then .faultRaised else .faultCleared

/-- The fault class of an axis class. -/
def AxisClass.toClass : AxisClass → FaultClass
  | .controllerSilent => .controllerSilent
  | .limitDwell => .limitDwell
  | .refreshLate => .refreshLate

/-- An axis's flag of an axis class written. -/
def Axis.withClass (ax : Axis) (c : AxisClass) (on : Bool) : Axis :=
  match c with
  | .controllerSilent => { ax with silentActive := on }
  | .limitDwell => { ax with limitDwellActive := on }
  | .refreshLate => { ax with lateActive := on }

/-- Setting or clearing the flag of an axis class for an axis. A report that changes nothing, or that comes while the profile is
EMPTY, does nothing (R131). A change raises its event and marks AXIS_STATUS of the axis; the first axis to gain the class and the
last to lose it mark ACTIVE_FAULTS (R140); the headline is found afresh (R141). -/
def State.setAxisFlag (s : State) (c : AxisClass) (a : AxisId) (on : Bool) : State :=
  if !s.profileActive || (s.axis a).classActive c == on then s
  else
    let t := s.setAxis a ((s.axis a).withClass c on)
    (((t.raise (flagEvent on)).mark (.axisStatus a)).markIf (s.classActive c.toClass != t.classActive c.toClass)
      .activeFaults).judgeHeadline

/-- The device classes' flags as they should stand, for the source classes (R132): lost, fallback. -/
def State.sourceClasses (s : State) : Bool × Bool :=
  match s.selected with
  | none => (true, false)
  | some src => (false, decide (src ≠ s.page.primary))

/-- What the change of one device flag raises and marks. -/
def State.reportFlag (s : State) (old new : Bool) : State :=
  if old = new then s else (s.raise (flagEvent new)).mark .activeFaults

/-- The two source classes' flags written, as one event: each flag that changes raises its event, and the headline is found afresh
once (R132, R140, R141). -/
def State.setSourceFlags (s : State) (lost fallback : Bool) : State :=
  let t := { s with faults := { s.faults with sourceLost := lost, sourceFallback := fallback } }
  ((t.reportFlag s.faults.sourceLost lost).reportFlag s.faults.sourceFallback fallback).judgeHeadline

/-- FRAME_LOST's flag written (R137); its only policy is CONTINUE. -/
def State.setFrameLost (s : State) (on : Bool) : State :=
  if !s.profileActive || s.faults.frameLost == on then s
  else ({ s with faults := { s.faults with frameLost := on } }.reportFlag s.faults.frameLost on).judgeHeadline

end Sys2Proof.Machine
end

