-- ==== Sys2Proof/Machine/Holds.lean ====
section
/-! DEFINITION. Axis states, holds and the fault policies that impose them (chapter 4, 9.5). -/

namespace Sys2Proof.Machine

/-! ### Axis state changes (R60) -/

/-- A change of an axis's state: AXIS_STATE is raised, AXIS_STATUS marked dirty, and a burst in flight on the axis aborted (R60). A
state left as it was is no change. -/
def State.setAxisState (s : State) (a : AxisId) (st : AxisState) : State :=
  if (s.axis a).state = st then s
  else (((s.setAxis a { s.axis a with state := st }).raise .axisState).mark (.axisStatus a)).abortBurstOn a

/-! ### The hold-cause set (R69) -/

/-- Membership in a cause set. -/
def Causes.has (cs : Causes) : Cause → Bool
  | .command => cs.command
  | .sourceLost => cs.sourceLost
  | .sourceFallback => cs.sourceFallback
  | .controllerSilent => cs.controllerSilent
  | .limitDwell => cs.limitDwell
  | .refreshLate => cs.refreshLate

/-- A cause added to a set. -/
def Causes.add (cs : Causes) : Cause → Causes
  | .command => { cs with command := true }
  | .sourceLost => { cs with sourceLost := true }
  | .sourceFallback => { cs with sourceFallback := true }
  | .controllerSilent => { cs with controllerSilent := true }
  | .limitDwell => { cs with limitDwell := true }
  | .refreshLate => { cs with refreshLate := true }

/-- The cause a fault class is; FRAME_LOST is never one (R69). -/
def FaultClass.cause : FaultClass → Option Cause
  | .sourceLost => some .sourceLost
  | .sourceFallback => some .sourceFallback
  | .controllerSilent => some .controllerSilent
  | .limitDwell => some .limitDwell
  | .refreshLate => some .refreshLate
  | .frameLost => none

/-- Adding a cause to an axis's set; AXIS_STATUS is marked dirty if the set changed (R60, R70). -/
def State.addCause (s : State) (a : AxisId) (c : Cause) : State :=
  (s.setAxis a { s.axis a with causes := (s.axis a).causes.add c }).markIf (!(s.axis a).causes.has c) (.axisStatus a)

/-! ### Refreshes (3.5) -/

/-- A refresh is marked: where the mark was clear, the refresh-deadline timer starts at 2 ms; where it was set, both stay (R54). -/
def State.markRefresh (s : State) (a : AxisId) : State :=
  if (s.axis a).refreshPending then s
  else s.setAxis a { s.axis a with refreshPending := true, deadlineTimer := some 2 }

/-- The refresh-pending mark cleared and its deadline timer stopped, at a grant or a cancel; either ends REFRESH_LATE for the axis
(R54 to R57, R136). -/
def State.clearRefresh (s : State) (a : AxisId) : State :=
  (s.setAxis a { s.axis a with refreshPending := false, deadlineTimer := none }).setAxisFlag .refreshLate a false

/-! ### Entry to HELD (R71) and hold requests (R70) -/

/-- The entry to HELD with a cause: the refresh is cancelled, the silence and dwell timers stop, LIMIT_DWELL and REFRESH_LATE lapse,
and the state becomes HELD; output, correction and flags stay (R71). That REFRESH_LATE lapses before LIMIT_DWELL is the model's: DESIGN
CHOICE, unsafe (assumption log 27). -/
def State.enterHeld (s : State) (a : AxisId) (c : Cause) : State :=
  let t := (s.addCause a c).clearRefresh a
  ((t.setAxis a { t.axis a with silenceTimer := none, dwellTimer := none }).setAxisFlag .limitDwell a false).setAxisState a .held

/-- A hold, by PARK or by a fault: OFF ignores it, STABILISING and COASTING enter HELD, HELD adds the cause (R70, R73). -/
def State.hold (s : State) (a : AxisId) (c : Cause) : State :=
  match (s.axis a).state with
  | .off => s
  | .stabilising | .coasting => s.enterHeld a c
  | .held => s.addCause a c

/-! ### Policies (R139) -/

/-- A hold request naming a class. -/
def State.holdRequest (s : State) (fc : FaultClass) (a : AxisId) : State :=
  match fc.cause with
  | none => s
  | some c => s.hold a c

/-- Hold requests to all four axes (R139), axis 0 first: DESIGN CHOICE, unsafe (assumption log 27). -/
def State.holdAll (s : State) (fc : FaultClass) : State := forAxes (fun a t => t.holdRequest fc a) s

/-- The policy of a device class at its activation (R139). A device class cannot take HOLD_AXIS (R138). -/
def State.applyDevicePolicy (s : State) (fc : FaultClass) : State :=
  match s.page.policy fc with
  | .holdAll => s.holdAll fc
  | .continue | .holdAxis | .invalid => s

/-- The policy of an axis class at its activation for an axis (R139). -/
def State.applyAxisPolicy (s : State) (c : AxisClass) (a : AxisId) : State :=
  match s.page.policy c.toClass with
  | .holdAxis => s.holdRequest c.toClass a
  | .holdAll => s.holdAll c.toClass
  | .continue | .invalid => s

/-- Activation of an axis class for an axis: the flag, and the class's policy as one event with it. A report that changes no flag
activates nothing (R131, R139). -/
def State.activate (s : State) (c : AxisClass) (a : AxisId) : State :=
  if !s.profileActive || (s.axis a).classActive c then s
  else (s.setAxisFlag c a true).applyAxisPolicy c a

/-- SOURCE_LOST and SOURCE_FALLBACK judged afresh from the selected source and the primary, and the policy of a class that became
active applied (R132, R139). The monitor works only while the profile is ACTIVE (R131). Both flags are judged before the headline is found
afresh, once: DEDUCED, unsafe (assumption log 14). -/
def State.judgeSources (s : State) : State :=
  if !s.profileActive then s
  else
    let t := s.setSourceFlags s.sourceClasses.1 s.sourceClasses.2
    let u := if s.sourceClasses.1 && !s.faults.sourceLost then t.applyDevicePolicy .sourceLost else t
    if s.sourceClasses.2 && !s.faults.sourceFallback then u.applyDevicePolicy .sourceFallback else u

/-! ### Timer expiries of an axis -/

/-- The silence timer's expiry (R67, R133): the timer stops; CONTROLLER_SILENT becomes active for the axis, and its policy is applied
even where the class was active already (R139); under CONTINUE a STABILISING axis goes to COASTING. -/
def State.silenceExpiry (s : State) (a : AxisId) : State :=
  if !(s.axis a).silenceTimer.due then s
  else
    let t := s.setAxis a { s.axis a with silenceTimer := none }
    if !t.profileActive then t
    else
      let u := t.setAxisFlag .controllerSilent a true
      match u.page.policy .controllerSilent with
      | .continue => if (u.axis a).state = .stabilising then u.setAxisState a .coasting else u
      | .holdAxis | .holdAll | .invalid => u.applyAxisPolicy .controllerSilent a

/-- The dwell timer's expiry (R134). -/
def State.dwellExpiry (s : State) (a : AxisId) : State :=
  if !(s.axis a).dwellTimer.due then s
  else (s.setAxis a { s.axis a with dwellTimer := none }).activate .limitDwell a

/-- The refresh-deadline timer's expiry with the mark still set (R57, R136). The mark stays. -/
def State.deadlineExpiry (s : State) (a : AxisId) : State :=
  if !(s.axis a).deadlineTimer.due then s
  else
    let t := s.setAxis a { s.axis a with deadlineTimer := none }
    if (s.axis a).refreshPending then t.activate .refreshLate a else t

end Sys2Proof.Machine
end

