-- ==== Sys2Proof/Machine/Composition.lean ====
section
/-! DEFINITION. Output composition (chapter 3), the dwell measure (R134) and the refresh count (R53). -/

namespace Sys2Proof.Machine

/-- The correction of an angle under a gain: the negative of P / 2^24 rounded half away from zero, saturated (R40). -/
def correctionOf (theta : Int) (gain : Nat) : Int := saturate (-(roundHalfAway (theta * gain) 16777216))

/-- What one composition gives (R41 to R44). -/
structure Composed where
  correction : Int
  output     : Int
  rate       : Bool
  limit      : Bool
deriving DecidableEq, Repr

/-- The rate limit and the soft limit, from the output as it stands toward the raw sum (R42 to R44). -/
def moveOutput (prev v step lo hi c : Int) : Composed :=
  let candidate := prev + clamp (-step) step (v - prev)
  { correction := c, output := clamp lo hi candidate,
    rate := decide (step < v - prev ∨ v - prev < -step),
    limit := decide (hi < candidate ∨ candidate < lo) }

/-- The composition of an axis under a profile, a severity state and an excitation (R40 to R44). -/
def composed (p : Page) (a : AxisId) (sev : SeverityState) (x : Int) (ax : Axis) : Composed :=
  let c := correctionOf ax.theta (p.gain a)
  moveOutput ax.output (ax.intent.toInt + c + x) (p.stepLimit a sev) (p.softLo a) (p.softHi a) c

/-- The dwell measure of LIMIT_DWELL, after a composition has set or cleared LIMIT (R134, R135). -/
def State.measureDwell (s : State) (a : AxisId) : State :=
  if (s.axis a).limit then
    if (s.axis a).dwellTimer = none ∧ (s.axis a).limitDwellActive = false then
      s.setAxis a { s.axis a with dwellTimer := some (s.page.dwellMs a) }
    else s
  else (s.setAxis a { s.axis a with dwellTimer := none }).setAxisFlag .limitDwell a false

/-- One composition of an axis: output, correction and flags take their new values; OUTPUT and CORRECTION are marked dirty, AXIS_STATUS
where RATE or LIMIT changed (R44, R58); then the dwell measure. -/
def State.compose (s : State) (a : AxisId) : State :=
  let ax := s.axis a
  let r := composed s.page a s.severity.state (s.excitation a) ax
  let t := s.setAxis a { ax with correction := r.correction, output := r.output, rate := r.rate, limit := r.limit }
  (((t.mark (.output a)).mark (.correction a)).markIf (r.rate != ax.rate || r.limit != ax.limit) (.axisStatus a)).measureDwell a

/-- Counting an arrival toward the next refresh, after its composition (R53). -/
def State.countArrival (s : State) (a : AxisId) : State :=
  if (s.axis a).refreshCount + 1 = s.page.divider a then
    (s.setAxis a { s.axis a with refreshCount := 0 }).markRefresh a
  else s.setAxis a { s.axis a with refreshCount := (s.axis a).refreshCount + 1 }

/-- What an arrival does at an Axis Unit: a STABILISING or COASTING axis composes and counts; OFF and HELD do nothing (R47, R48). -/
def State.arrivalAt (s : State) (a : AxisId) : State :=
  if (s.axis a).state.composes then (s.compose a).countArrival a else s

/-! ### Intent (R91, R92) -/

/-- The intent recorded from a write: unwritten bytes come from the intent recorded before, or are 0 where none was (R92). -/
def mergedIntent (ax : Axis) (data : Word) (lanes : Lanes) : Word :=
  mergeLanes lanes data (if ax.intentValid then ax.intent else 0)

/-- The silence timer started or restarted with the window of the active profile (R66). -/
def State.startSilence (s : State) (a : AxisId) : State :=
  s.setAxis a { s.axis a with silenceTimer := Timer.startUnlessZero (s.page.silenceMs a) }

/-- An intent write at its Axis Unit (R91): recorded in every state, ending CONTROLLER_SILENT (R133); a STABILISING axis restarts its
silence timer and composes (R65), a COASTING one becomes STABILISING as well (R68), OFF and HELD compose nothing (R61, R72). For a COASTING
axis R68 ends the class before the composition; that it is so for a STABILISING one too, whose composition may end LIMIT_DWELL, is the
model's, since R65 gives no order: DESIGN CHOICE, unsafe (assumption log 27). -/
def State.recordIntent (s : State) (a : AxisId) (addr : Addr) (data : Word) (lanes : Lanes) : State :=
  let ax := s.axis a
  let t := ((s.setAxis a { ax with intent := mergedIntent ax data lanes, intentValid := true, outAddr := some addr }).mark
    (.intent a)).setAxisFlag .controllerSilent a false
  if ax.state.composes then ((t.startSilence a).setAxisState a .stabilising).compose a else t

end Sys2Proof.Machine
end

