-- ==== Sys2Proof/Machine/Severity.lean ====
section
/-! DEFINITION. The Severity Monitor (chapter 7). -/

namespace Sys2Proof.Machine

/-- The level after an arrival: up by 2 to at most 255 on a rough one, down by 1 to at least 0 on a smooth one (R110). -/
def nextLevel (rough : Bool) (level : Nat) : Nat := if rough then min (level + 2) 255 else level - 1

/-- An arrival is rough where the magnitude of d is T or more for an axis enabled in the active profile (R110). -/
def isRough (p : Page) (d : AxisId → Int) : Bool := anyAxis fun a => p.enabled a && decide (p.threshold ≤ (d a).natAbs)

/-- A boost value held, where the boost is enabled in the active profile; it replaces any value held before (R116). -/
def State.holdBoost (s : State) (v : Word) : State :=
  if s.page.boostEnable then { s with severity := { s.severity with boostHeld := some v } } else s

/-- The severity state written, and SEVERITY marked dirty (R119). -/
def State.setSeverity (s : State) (st : SeverityState) : State :=
  { s with severity := { s.severity with state := st } }.mark .severity

/-- The start of EASING: the exit-hold timer starts with the exit-hold time of the active profile (R113). -/
def State.startEasing (s : State) : State :=
  { s with severity := { s.severity with exitHoldTimer := some s.page.exitHoldMs } }.setSeverity .easing

/-- The end of BOOSTING: ROUGH, or EASING at once where the level is 0; the settle timer stops (R112). -/
def State.settle (s : State) : State :=
  let t := { s with severity := { s.severity with settleTimer := none } }
  if t.severity.level = 0 then (t.setSeverity .rough).startEasing else t.setSeverity .rough

/-- The entry to BOOSTING; a settle time of 0 ends it at the same event (R111). -/
def State.enterBoosting (s : State) : State :=
  let t := ((({ s with severity := { s.severity with settleTimer := some s.page.settleMs } }.holdBoost s.page.boostActive).setSeverity
    .boosting).raise .severityEnter)
  if s.page.settleMs = 0 then t.settle else t

/-- The state change that the level calls for after an arrival's update (R111 to R113). -/
def State.judgeSeverity (s : State) : State :=
  match s.severity.state with
  | .calm => if s.page.entryLevel ≤ s.severity.level then s.enterBoosting else s
  | .boosting => s
  | .rough => if s.severity.level = 0 then s.startEasing else s
  | .easing =>
    if s.severity.level = 0 then s
    else { s with severity := { s.severity with exitHoldTimer := none } }.setSeverity .rough

/-- The level update of an arrival, and the state change it calls for (R110, R119). -/
def State.updateLevel (s : State) (d : AxisId → Int) : State :=
  let level := nextLevel (isRough s.page d) s.severity.level
  ({ s with severity := { s.severity with level := level } }.markIf (level != s.severity.level) .severity).judgeSeverity

/-- The settle timer's expiry (R112). -/
def State.settleExpiry (s : State) : State :=
  if s.severity.settleTimer.due then
    match s.severity.state with
    | .boosting => s.settle
    | .calm | .rough | .easing => s
  else s

/-- The exit-hold timer's expiry (R114). -/
def State.exitHoldExpiry (s : State) : State :=
  if s.severity.exitHoldTimer.due then
    match s.severity.state with
    | .easing =>
      (({ s with severity := { s.severity with exitHoldTimer := none } }.holdBoost s.page.boostNormal).setSeverity .calm).raise
        .severityLeave
    | .calm | .boosting | .rough => s
  else s

/-! ### At an accepted apply (R117) -/

/-- The boost settings of a profile: enable, address and the two values. -/
def Page.boostSettings (p : Page) : Bool × Addr × Word × Word := (p.boostEnable, p.boostAddr, p.boostNormal, p.boostActive)

/-- The boost value that matches a severity state. -/
def Page.boostValue (p : Page) : SeverityState → Word
  | .calm => p.boostNormal
  | .boosting | .rough | .easing => p.boostActive

/-- The monitor at an accepted apply: a profile without the boost drops a held value (R116); where the boost settings changed, or the
profile was EMPTY, the value matching the state is held (R117). -/
def State.takeUpBoost (s : State) (old : Option Page) : State :=
  if !s.page.boostEnable then { s with severity := { s.severity with boostHeld := none } }
  else if old.map Page.boostSettings = some s.page.boostSettings then s
  else s.holdBoost (s.page.boostValue s.severity.state)

end Sys2Proof.Machine
end

