-- ==== Sys2Proof/Machine/Estimator.lean ====
section
/-! DEFINITION. The Disturbance Estimator (chapter 2): what an arrival does, and the ZERO capture. -/

namespace Sys2Proof.Machine

/-- An arrival record (R17). -/
structure Arrival where
  source : Source
  rates  : Channels
  gap    : Nat
deriving DecidableEq, Repr

/-! ### The four stages (R21 to R26) -/

/-- Stage 1: the corrected rates (R21). -/
def correctedRates (raw bias : Channels) : Channels :=
  { x := saturate (raw.x - bias.x), y := saturate (raw.y - bias.y), z := saturate (raw.z - bias.z) }

/-- Stage 2: the disturbance rate of an axis (R22). -/
def mixedRate (m r : Channels) : Int := saturate (roundHalfAway (m.x * r.x + m.y * r.y + m.z * r.z) 512)

/-- The disturbance rate d of an axis at an arrival. -/
def State.axisRate (s : State) (arr : Arrival) (a : AxisId) : Int :=
  mixedRate (s.page.mixing a) (correctedRates arr.rates (s.bias.get arr.source))

/-- Stage 3: the step count (R23). -/
def stepCount (gap : Nat) : Nat := min (gap + 1) 4

/-- The leak of an angle under a leak shift: the whole part of |θ| / 2^k but at least 1, with the sign of θ, and 0 for 0 (R24). -/
def leak (k : Nat) (theta : Int) : Int := if theta = 0 then 0 else theta.sign * ((max 1 (theta.natAbs / 2 ^ k) : Nat) : Int)

/-- One integration step (R25). -/
def integrateStep (k : Nat) (d theta : Int) : Int := theta + d - leak k theta

/-- `n` integration steps, one after another. -/
def integrate (k : Nat) (d : Int) : Nat → Int → Int
  | 0, theta => theta
  | n + 1, theta => integrate k d n (integrateStep k d theta)

/-- Stage 4 for one axis: an enabled axis that is not OFF takes its steps (R25, R26). -/
def State.integrateAxis (arr : Arrival) (d : Int) (s : State) (a : AxisId) : State :=
  if s.page.enabled a && s.axisActive a then
    s.setAxis a { s.axis a with
      theta := integrate (s.page.leakShift a s.severity.state) d (stepCount arr.gap) (s.axis a).theta }
  else s

/-! ### The ZERO capture (2.6) -/

/-- The end of a capture that leaves a record: IDLE, its result shown, ZERO_RESULT dirty and ZERO_DONE raised (R38). Its source, sums and
count stand, read by nothing until the next ZERO sets them: DESIGN CHOICE, unsafe (assumption log 17). -/
def State.endCapture (s : State) (c : Capture) (r : ZeroResult) : State :=
  ({ s with capture := { c with state := .idle }, zeroResult := r }.mark .zeroResult).raise .zeroDone

/-- A change of the selected source aborts a running capture with SOURCE (R36). -/
def State.abortCapture (s : State) : State :=
  if s.capture.state = .idle then s else s.endCapture s.capture (.source s.capture.source)

/-- Whether an arrival is still: no raw rate's magnitude is greater than the threshold (R35). -/
def Channels.still (r : Channels) (threshold : Nat) : Bool :=
  r.x.natAbs ≤ threshold && r.y.natAbs ≤ threshold && r.z.natAbs ≤ threshold

/-- Sums of three channels. -/
def Channels.add (u v : Channels) : Channels := { x := u.x + v.x, y := u.y + v.y, z := u.z + v.z }

/-- The bias entries that the sums of 1,024 arrivals give (R37). -/
def Channels.mean (u : Channels) : Channels :=
  { x := roundHalfAway u.x 1024, y := roundHalfAway u.y 1024, z := roundHalfAway u.z 1024 }

/-- Completion: the bias entries of the capture source are replaced together (R37, R38). -/
def State.completeCapture (s : State) (c : Capture) : State :=
  (((({ s with bias := s.bias.set c.source c.sums.mean }.mark (.biasX c.source)).mark (.biasY c.source)).mark
    (.biasZ c.source))).endCapture c (.done c.source)

/-- A running capture's act at an arrival of its source: the stillness test, the sums, and completion at the 1,024th (R34, R35). -/
def State.captureStep (s : State) (arr : Arrival) : State :=
  if s.capture.state = .idle ∨ s.capture.source ≠ arr.source then s
  else if !arr.rates.still s.page.stillness then s.endCapture s.capture (.moving s.capture.source)
  else
    let c := { s.capture with sums := s.capture.sums.add arr.rates, count := s.capture.count + 1 }
    if c.count = 1024 then s.completeCapture c else { s with capture := c }

/-- ZERO's own tests and its effect (R33). -/
def zeroCommand (s : State) : CmdResult × State :=
  match s.selected with
  | none => (.noSource, s)
  | some src =>
    if s.capture.state = .running then (.busy, s)
    else (.accepted, { s with
      capture := { state := .running, source := src, sums := .zero, count := 0 }, zeroResult := .running src }.mark .zeroResult)

/-! ### An arrival, whole (R20, R32) -/

/-- Everything an arrival does: integration of every axis with the severity state as it stands, composition and refresh counting, the
burst's advance after the compositions, the level update from the same d values, and the capture (R20, R26, R32, R42, R123). -/
def State.arrival (s : State) (arr : Arrival) : State :=
  let integrated := forAxes (fun a t => t.integrateAxis arr (s.axisRate arr a) a) s
  let composed := forAxes (fun a t => t.arrivalAt a) integrated
  ((composed.burstStep).updateLevel (s.axisRate arr)).captureStep arr

end Sys2Proof.Machine
end

