-- ==== Sys2Proof/Machine/LinkReceiver.lean ====
section
/-! DEFINITION. The Link Receiver (chapter 1): bytes, frames, acceptance and the selected source. -/

namespace Sys2Proof.Machine

/-! ### Frames (R3, R4) -/

/-- The sync byte. -/
def syncByte : Byte := 0xA5

/-- One shift of the check's running value (R4). -/
def crcShift (c : Byte) : Byte := if c.msb then (c <<< 1) ^^^ 0x07 else c <<< 1

/-- The running value after a byte: the exclusive-or, then eight shifts (R4). -/
def crcByte (c b : Byte) : Byte := crcShift (crcShift (crcShift (crcShift (crcShift (crcShift (crcShift (crcShift (c ^^^ b))))))))

/-- The check value over bytes. -/
def crc (bytes : List Byte) : Byte := bytes.foldl crcByte 0

/-- Byte `n` of a frame, 1 to 9, from the nine bytes after its sync. -/
def frameByte (f : List Byte) (n : Nat) : Byte := f.getD (n - 1) 0

/-- A rate: two's complement, low byte first (R3). -/
def frameRate (f : List Byte) (n : Nat) : Int := (ofBytes (frameByte f (n + 1)) (frameByte f n)).toInt

/-- The three rates of a frame. -/
def frameRates (f : List Byte) : Channels := { x := frameRate f 2, y := frameRate f 4, z := frameRate f 6 }

/-- The saturated flag. -/
def frameSaturated (f : List Byte) : Bool := (frameByte f 8).getLsbD 0

/-- The self-test fail flag. -/
def frameSelfTestFail (f : List Byte) : Bool := (frameByte f 8).getLsbD 1

/-- The check of a complete frame: over bytes 1 to 8, compared with byte 9 (R4). -/
def frameCheck (f : List Byte) : Bool := crc (f.take 8) == frameByte f 9

/-- The rescan of a frame that failed its check: the first 0xA5 among the nine bytes is a new sync, the bytes after it the opening of a
new frame buffer (R7). -/
def rescan (f : List Byte) : Assembly :=
  match f.dropWhile (fun b => b != syncByte) with
  | [] => .hunting
  | _ :: rest => .collecting rest

/-- Frame assembly written. -/
def State.setAssembly (s : State) (line : Source) (asm : Assembly) : State := s.setLink line { s.link line with assembly := asm }

/-! ### Selection (1.6) -/

/-- A change of the selected source (R16): SOURCE_SWITCH is raised and SOURCE_STATE marked dirty, a capture in flight is aborted, a burst
is aborted where the selection becomes NONE, and the Fault Monitor judges the source classes. -/
def State.select (s : State) (new : Option Source) : State :=
  if s.selected = new then s
  else
    let t := (({ s with selected := new }.raise .sourceSwitch).mark .sourceState).abortCapture
    (if new = none then t.abortBurst else t).judgeSources

/-- Whether a source is LIVE. -/
def State.isLive (s : State) (src : Source) : Bool := (s.link src).state == .live

/-- The source that R12 selects: a LIVE primary, else with fallback enabled the other source where it is LIVE, else NONE. -/
def State.sourceToSelect (s : State) : Option Source :=
  if s.isLive s.page.primary then some s.page.primary
  else if s.page.fallback && s.isLive (otherSource s.page.primary) then some (otherSource s.page.primary)
  else none

/-- A selection is made only while the profile is ACTIVE and the selected source is NONE (R12, R13). -/
def State.reviewSelection (s : State) : State :=
  if s.profileActive && s.selected.isNone then s.select s.sourceToSelect else s

/-- What is selected when the selected source goes STALE (R14). -/
def State.fallbackFrom (s : State) (src : Source) : Option Source :=
  if s.isLive (otherSource src) && (otherSource src == s.page.primary || s.page.fallback) then some (otherSource src) else none

/-! ### Acceptance (R8 to R12, R17) -/

/-- The sequence gap of a frame (R10). -/
def sequenceGap (l : Link) (seq : Byte) : Nat := if l.state = .live then (seq - l.lastSeq - 1).toNat else 0

/-- The source's record after an acceptance (R8, R9, R11); its frame assembly returns to HUNTING (R5). -/
def acceptedLink (l : Link) (f : List Byte) : Link :=
  { assembly := .hunting, state := .live, lastSeq := frameByte f 1, staleTimer := some 5, satSeen := l.satSeen || frameSaturated f }

/-- Acceptance of a frame: the record, the selection a source that becomes LIVE brings about, and the arrival where the source is then the
selected one (R8, R11, R12, R17, R18). Where that selection activates SOURCE_FALLBACK under HOLD_ALL, the hold comes before the arrival:
DESIGN CHOICE, unsafe (assumption log 26). -/
def State.acceptFrame (s : State) (line : Source) (f : List Byte) : State :=
  let l := s.link line
  let t := s.setLink line (acceptedLink l f)
  let u := if l.state = .live then t else (t.mark .sourceState).reviewSelection
  if u.selected = some line then u.arrival { source := line, rates := frameRates f, gap := sequenceGap l (frameByte f 1) } else u

/-- The judgement of a complete frame: accepted, abandoned for self-test, or abandoned for its check and rescanned (R5, R7, R8). -/
def State.judgeFrame (s : State) (line : Source) (f : List Byte) : State :=
  if !frameCheck f then s.setAssembly line (rescan f)
  else if frameSelfTestFail f then s.setAssembly line .hunting
  else s.acceptFrame line f

/-- A frame buffer that holds nine bytes is complete (R5). -/
def Assembly.complete : Assembly → Option (List Byte)
  | .hunting => none
  | .collecting f => if f.length = 9 then some f else none

/-- The check of the complete frame on a line, if there is one. -/
def State.checkFrame (s : State) (line : Source) : State :=
  match (s.link line).assembly.complete with
  | none => s
  | some f => s.judgeFrame line f

/-! ### Bytes (R2, R5, R6) -/

/-- Frame assembly taking a good byte. -/
def Assembly.take (asm : Assembly) (b : Byte) : Assembly :=
  match asm with
  | .hunting => if b = syncByte then .collecting [] else .hunting
  | .collecting f => .collecting (f ++ [b])

/-- A good byte on a line. A complete frame is judged at the end of its check byte, so before the next byte is taken (R5, R8): DEDUCED, safe
(assumption log 7). -/
def State.goodByte (s : State) (line : Source) (b : Byte) : State :=
  let t := s.checkFrame line
  t.setAssembly line ((t.link line).assembly.take b)

/-- A framing error on a line: HUNTING goes on, a frame being collected is abandoned (R2). -/
def State.framingError (s : State) (line : Source) : State := (s.checkFrame line).setAssembly line .hunting

/-- The byte timeout of a line: a frame being collected is abandoned (R6). A complete frame is no longer being collected. -/
def State.byteTimeout (s : State) (line : Source) : State := (s.checkFrame line).setAssembly line .hunting

/-! ### Stale expiry (R11, R14) and SOURCE_RETURN (R15) -/

/-- The expiry of a source's stale timer. -/
def State.staleExpiry (s : State) (src : Source) : State :=
  if !(s.link src).staleTimer.due then s
  else
    let t := (s.setLink src { s.link src with state := .stale, staleTimer := none }).mark .sourceState
    if t.selected = some src then t.select (t.fallbackFrom src) else t

/-- SOURCE_RETURN's own tests and its effect (R15). -/
def sourceReturnCommand (s : State) : CmdResult × State :=
  if s.selected = some s.page.primary then (.wrongState, s)
  else if !s.isLive s.page.primary then (.noSource, s)
  else (.done, s.select (some s.page.primary))

end Sys2Proof.Machine
end

