-- ==== Sys2Proof/Machine/Ram.lean ====
section
/-! DEFINITION. The setpoint RAM: reading and writing cells and words, and the canonical form of its listing. -/

namespace Sys2Proof.Machine

/-- What a cell that is not listed reads as: the manual gives the RAM no contents at power-on. DESIGN CHOICE, unsafe (assumption log 3). -/
def unlistedByte : Byte := 0

/-- The listing is in canonical form: addresses strictly rising from `from` on, and no cell equal to what an unlisted one reads as. -/
def cellsFrom (start : Nat) : Memory → Bool
  | [] => true
  | (k, b) :: rest => decide (start ≤ k) && b != unlistedByte && cellsFrom (k + 1) rest

/-- The RAM is in its canonical form. -/
def Memory.wf (m : Memory) : Bool := cellsFrom 0 m

/-- The byte a cell holds. -/
def Memory.readByte (m : Memory) (k : Nat) : Byte :=
  match m with
  | [] => unlistedByte
  | (j, b) :: rest => if j = k then b else Memory.readByte rest k

/-- Writing a byte to a cell; writing what an unlisted cell reads as removes the entry. -/
def Memory.writeByte (m : Memory) (k : Nat) (b : Byte) : Memory :=
  match m with
  | [] => if b = unlistedByte then [] else [(k, b)]
  | (j, c) :: rest =>
    if k < j then (if b = unlistedByte then (j, c) :: rest else (k, b) :: (j, c) :: rest)
    else if j = k then (if b = unlistedByte then rest else (k, b) :: rest)
    else (j, c) :: Memory.writeByte rest k b

/-- The cell of the low lane of a word. -/
def lowCell (a : Addr) : Nat := 2 * a.toNat

/-- The cell of the high lane of a word. -/
def highCell (a : Addr) : Nat := 2 * a.toNat + 1

/-- The word at an address. -/
def Memory.readWord (m : Memory) (a : Addr) : Word := ofBytes (m.readByte (highCell a)) (m.readByte (lowCell a))

/-- The low lane of a write: the low byte is stored where the lane is enabled. -/
def Memory.writeLow (m : Memory) (a : Addr) (data : Word) (lanes : Lanes) : Memory :=
  if lanes.low then m.writeByte (lowCell a) (lowByte data) else m

/-- The high lane of a write. -/
def Memory.writeHigh (m : Memory) (a : Addr) (data : Word) (lanes : Lanes) : Memory :=
  if lanes.high then m.writeByte (highCell a) (highByte data) else m

/-- A write of the bus: each enabled lane of the word at the address takes its byte of the data. -/
def Memory.writeWord (m : Memory) (a : Addr) (data : Word) (lanes : Lanes) : Memory :=
  (m.writeLow a data lanes).writeHigh a data lanes

end Sys2Proof.Machine
end

