-- ==== Sys2Proof/Machine/RingWriter.lean ====
section
/-! DEFINITION. The Ring Writer (10.2): capture, write-out, publication and the consumer index. -/

namespace Sys2Proof.Machine

/-- The ring length N of the active profile. -/
def State.ringN (s : State) : Nat := s.page.ringLength

/-- The ring is enabled: the profile ACTIVE, ring enable set, N from 2 to 80 (R150). -/
def State.ringEnabled (s : State) : Bool :=
  s.profileActive && s.page.ringEnable && decide (2 ≤ s.ringN) && decide (s.ringN ≤ 80)

/-- The number of records from index `q` up to, and not including, index `p`, modulo N (10.2). -/
def ringDistance (n p q : Nat) : Nat := (p + n - q) % n

/-! ### The motion record (R151, 12.4) -/

/-- Word 2: timecode valid, selected source, severity state, and the saturation-seen flags of A and B. -/
def State.recordWord2 (s : State) : Word :=
  BitVec.ofNat 16 (bitAt 15 s.timecode.valid + selectedCode s.selected + 4 * s.severity.state.code
    + bitAt 4 s.links.a.satSeen + bitAt 5 s.links.b.satSeen)

/-- Word 3: the four axes' states, and the burst axis while a burst runs. -/
def State.recordWord3 (s : State) : Word :=
  BitVec.ofNat 16 ((s.axis 0).state.code + 4 * (s.axis 1).state.code + 16 * (s.axis 2).state.code + 64 * (s.axis 3).state.code
    + if s.burst.state = .running then 256 + 512 * s.burst.axis.val else 0)

/-- The twelve words of a record, as they stand. -/
def State.recordWords (s : State) : Vector Word 12 :=
  #v[s.timecode.time.word0, s.timecode.time.word1, s.recordWord2, s.recordWord3,
    word16 (s.axis 0).output, word16 (s.axis 0).correction, word16 (s.axis 1).output, word16 (s.axis 1).correction,
    word16 (s.axis 2).output, word16 (s.axis 2).correction, word16 (s.axis 3).output, word16 (s.axis 3).correction]

/-- Both saturation-seen flags cleared (R9). -/
def State.clearSaturation (s : State) : State :=
  { s with links := ⟨{ s.links.a with satSeen := false }, { s.links.b with satSeen := false }⟩ }

/-- The next producer index. -/
def State.nextProducer (s : State) : Nat := (s.ring.producer + 1) % s.ringN

/-- A FRAME pulse at the Ring Writer (R151): a record is captured, or discarded with RING_OVERRUN where the ring is busy or full. -/
def State.captureRecord (s : State) : State :=
  if !s.ringEnabled then s
  else if s.ring.staged.isSome || s.nextProducer == s.ring.consumer then s.raise .ringOverrun
  else
    { s with ring := { s.ring with staged := some s.recordWords, slot := s.ring.producer, granted := 0, position := 0 } }.clearSaturation

/-! ### Write-out (R152) -/

/-- The address of word `k` of slot `slot`: the ring's first address plus 12 × slot + k, wrapping (R150, 12.4). -/
def Page.slotAddr (p : Page) (slot k : Nat) : Addr := p.ringStart + BitVec.ofNat 18 (12 * slot + k)

/-- The next staged word whose write has not been granted: its address and its data. -/
def State.nextRingWord (s : State) : Option (Addr × Word) :=
  match s.ring.staged with
  | none => none
  | some words => if h : s.ring.granted < 12 then some (s.page.slotAddr s.ring.slot s.ring.granted, words[s.ring.granted]) else none

/-- Publication of the staged record: p advances and the staging buffer is empty (R152); slot and write position stand: DESIGN CHOICE, unsafe
(assumption log 25). -/
def State.publish (s : State) : State :=
  ({ s with ring := { s.ring with producer := s.nextProducer, staged := none } }.mark .ringProducer).raise .ringRecord

/-- The ready of a word of the staged record: the write position advances, and word 11 publishes the record (R152). -/
def State.ringWordWritten (s : State) : State :=
  if s.ring.staged.isNone then s
  else
    let t := { s with ring := { s.ring with position := s.ring.position + 1 } }
    if s.ring.position + 1 = 12 then t.publish else t

/-! ### The consumer index (R89, R153) -/

/-- The consumer index that a write to RING_CONSUMER proposes (R89). -/
def State.proposedConsumer (s : State) (data : Word) (lanes : Lanes) : Nat :=
  (mergeLanes lanes data (BitVec.ofNat 16 s.ring.consumer)).toNat

/-- Whether a proposed index is valid: below N, and forward over published records at most to p (R153). -/
def State.consumerValid (s : State) (q : Nat) : Bool :=
  s.ringEnabled && decide (q < s.ringN)
    && decide (ringDistance s.ringN q s.ring.consumer ≤ ringDistance s.ringN s.ring.producer s.ring.consumer)

/-- The consumer index moved; RING_CONSUMER is marked dirty if it changed (R153). -/
def State.moveConsumer (s : State) (q : Nat) : State :=
  { s with ring := { s.ring with consumer := q } }.markIf (q != s.ring.consumer) .ringConsumer

/-! ### At an accepted apply (R154) -/

/-- What restarts the ring when it changes: base, N and ring enable. -/
def Page.ringSettings (p : Page) : Nat × Nat × Bool := (p.ringBase, p.ringLength, p.ringEnable)

/-- The transaction in progress no longer belongs to a staged record. -/
def MTxn.orphan (t : MTxn) : MTxn :=
  match t.kind with
  | .ringWord _ => { t with kind := .ringWord false }
  | .controllerWrite | .controllerRead _ | .refresh _ | .boost | .report | .sweepRead => t

/-- A ring restart: both indices 0, the staging buffer empty, a word already granted completing without effect on the ring (R154); slot and
write position stand: DESIGN CHOICE, unsafe (assumption log 25). -/
def State.restartRing (s : State) : State :=
  ({ s with ring := { s.ring with producer := 0, consumer := 0, staged := none },
            mport := { s.mport with busy := s.mport.busy.map MTxn.orphan } }.mark .ringProducer).mark .ringConsumer

/-- The Ring Writer at an accepted apply (R154). -/
def State.takeUpRing (s : State) (old : Option Page) : State :=
  if old.map Page.ringSettings = some s.page.ringSettings then s else s.restartRing

end Sys2Proof.Machine
end

