-- ==== Sys2Proof/Machine/TimecodeCounter.lean ====
section
/-! DEFINITION. The Timecode Counter (10.1) and the frame-lost measure (R137). -/

namespace Sys2Proof.Machine

/-- The time one frame later, at a rate (R145). -/
def Time.next (t : Time) (rate : Nat) : Time :=
  if t.frames + 1 < rate then { t with frames := t.frames + 1 }
  else if t.seconds + 1 < 60 then { t with frames := 0, seconds := t.seconds + 1 }
  else if t.minutes + 1 < 60 then { t with frames := 0, seconds := 0, minutes := t.minutes + 1 }
  else if t.hours + 1 < 24 then { hours := t.hours + 1, minutes := 0, seconds := 0, frames := 0 }
  else { hours := 0, minutes := 0, seconds := 0, frames := 0 }

/-- A time in range at a rate (R145, R146). -/
def Time.inRange (t : Time) (rate : Nat) : Bool := t.hours ≤ 23 && t.minutes ≤ 59 && t.seconds ≤ 59 && decide (t.frames < rate)

/-- Both TIMECODE words marked dirty, also where only one has changed: DEDUCED, unsafe (assumption log 12). -/
def State.markTime (s : State) : State := (s.mark .timecode0).mark .timecode1

/-- A FRAME pulse at the timecode: a pending set is taken (R147); otherwise a VALID timecode advances (R145). -/
def State.pulseTimecode (s : State) : State :=
  match s.timecode.pendingSet with
  | some t =>
    (({ s with timecode := { s.timecode with time := t, valid := true, pendingSet := none } }.markTime).mark .timecodeState).raise
      .tcApplied
  | none =>
    if s.timecode.valid then
      { s with timecode := { s.timecode with time := s.timecode.time.next s.timecode.rate.perSecond } }.markTime
    else s

/-- A FRAME pulse at the frame-lost measure: the timer restarts at 100 ms and the condition ends (R137); while RESET is held the timer
does not start (R144). -/
def State.pulseFrameLost (s : State) : State :=
  if s.resetHeld then s
  else { s with timecode := { s.timecode with frameLostTimer := some 100, frameLost := false } }.setFrameLost false

/-- A FRAME pulse: the frame-lost measure, the timecode, and then the Ring Writer's record (R145, R151). -/
def State.framePulse (s : State) : State := ((s.pulseFrameLost).pulseTimecode).captureRecord

/-- The frame-lost timer's expiry (R137). -/
def State.frameLostExpiry (s : State) : State :=
  if !s.timecode.frameLostTimer.due then s
  else { s with timecode := { s.timecode with frameLostTimer := none, frameLost := true } }.setFrameLost true

/-- The time that words 0xC4 and 0xC5 of the shadow request (R146). -/
def Page.requestedTime (p : Page) : Time :=
  { hours := p.high 0xC4, minutes := p.low 0xC4, seconds := p.high 0xC5, frames := p.low 0xC5 }

/-- TC_SET's own test and its effect (R146). -/
def tcSetCommand (s : State) : CmdResult × State :=
  let t := s.profile.shadow.requestedTime
  if !t.inRange s.timecode.rate.perSecond then (.badTime, s)
  else (.accepted, { s with timecode := { s.timecode with pendingSet := some t } }.markIf s.timecode.pendingSet.isNone .timecodeState)

/-- The Timecode Counter at an accepted apply: a frame rate other than the rate in force becomes it, and the timecode is INVALID with no
pending set (R148). No accepted profile names no rate; there the rate in force stays: DESIGN CHOICE, safe (assumption log 18). -/
def State.takeUpRate (s : State) : State :=
  match s.page.frameRate with
  | none => s
  | some r =>
    if r = s.timecode.rate then s
    else { s with timecode := { s.timecode with rate := r, valid := false, pendingSet := none } }.mark .timecodeState

end Sys2Proof.Machine
end

