-- ==== Sys2Proof/Machine/Windows.lean ====
section
/-! DEFINITION. The Window Matcher (chapter 5): the active window table, classification, and the tests an apply makes of a table. -/

namespace Sys2Proof.Machine

/-! ### The window table (R83, R84) -/

/-- A window matches an address when it is valid and the two agree on every bit of its mask (R84). -/
def Window.covers (w : Window) (addr : Addr) : Bool := w.valid && (addr ^^^ w.base) &&& w.mask == 0

/-- The lowest-numbered window that matches decides (R84). -/
def decidingWindow (table : List Window) (addr : Addr) : Option Window := table.find? fun w => w.covers addr

/-- The active window table: no entry while the profile is EMPTY (R83). -/
def State.table (s : State) : List Window :=
  match s.profile.active with
  | none => []
  | some p => p.windows

/-- Two entries differ when one is valid and the other is not, or both are valid with a different field (R83). -/
def Window.differs (u v : Window) : Bool := if u.valid || v.valid then decide (u ≠ v) else false

/-- Two profiles' tables differ in any entry (R83). -/
def tablesDiffer (p q : Page) : Bool := (List.zipWith Window.differs p.windows q.windows).any id

/-! ### Classification (5.3, R86) -/

/-- The classes of a transaction, in the order the tests are made. -/
inductive TxnClass where
  | profileWord (offset : Offset)
  | reportWord (offset : Offset)
  | ringWord
  | intent (axis : AxisId)
  | guard (axis : AxisId)
  | unmatched
deriving DecidableEq, Repr

/-- The report page. -/
def State.reportPage (s : State) : PageNo := reportPageOf s.strapPage

/-- Whether an address lies in the ring region, which exists only while the profile is ACTIVE (R82). -/
def State.inRing (s : State) (addr : Addr) : Bool :=
  match s.profile.active with
  | none => false
  | some p => p.inRing addr

/-- The class a window gives. -/
def Window.txnClass (w : Window) : TxnClass :=
  match w.kind with
  | .intent => .intent w.axis
  | .guard => .guard w.axis

/-- The class of a transaction at an address (R86). -/
def State.classify (s : State) (addr : Addr) : TxnClass :=
  if pageOf addr = s.strapPage then .profileWord (offsetOf addr)
  else if pageOf addr = s.reportPage then .reportWord (offsetOf addr)
  else if s.inRing addr then .ringWord
  else
    match decidingWindow s.table addr with
    | some w => w.txnClass
    | none => .unmatched

/-- The intent binding of a class (R91, R93). -/
def TxnClass.binding : TxnClass → Option AxisId
  | .intent a => some a
  | .profileWord _ | .reportWord _ | .ringWord | .guard _ | .unmatched => none

/-- The address of the EVENT_PENDING word of the report page (R89). -/
def State.eventPendingAddr (s : State) : Addr := addrAt s.reportPage 0x02

/-! ### The window that R106 tests a granted write against -/

/-- The axis that is active and has a valid INTENT window on an address, for a write that is not intent-bound (R106). -/
def State.activeIntentAxis (s : State) (addr : Addr) : Option AxisId :=
  (s.table.find? fun w => w.covers addr && w.kind == .intent && s.axisActive w.axis).map Window.axis

/-! ### The condition an apply's table meets (R85) -/

/-- Two windows share an address exactly when their bases agree on every bit both masks have set (R85). -/
def Window.meets (u v : Window) : Bool := (u.base ^^^ v.base) &&& (u.mask &&& v.mask) == 0

/-- A window matches an address of a page. -/
def Window.meetsPage (w : Window) (page : PageNo) : Bool := (w.base ^^^ addrAt page 0) &&& (w.mask &&& 0x3FF00#18) == 0

/-- A window matches an address of the ring region of a profile. -/
def Window.meetsRing (w : Window) (p : Page) : Bool :=
  p.hasRing && (List.range (min (12 * p.ringLength) 262144)).any fun i => w.covers (p.ringStart + BitVec.ofNat 18 i)

/-- Whether window `v`, at place `j` of the table, stands against the valid INTENT window `u` at place `i` (R85). -/
def Window.conflicts (u : Window) (i : Nat) (v : Window) (j : Nat) : Bool :=
  v.valid && decide (u.axis ≠ v.axis) && u.meets v &&
    match v.kind with
    | .intent => true
    | .guard => decide (j < i)

/-- Whether a valid INTENT window of a profile breaks the condition of R85. -/
def Page.windowAtFault (p : Page) (strap : PageNo) (w : Fin 8) : Bool :=
  let u := p.window w
  u.valid && u.kind == .intent &&
    ((List.finRange 8).any (fun j => u.conflicts w.val (p.window j) j.val)
      || u.meetsPage strap || u.meetsPage (reportPageOf strap) || u.meetsRing p
      || (p.boostEnable && u.covers p.boostAddr))

/-- Whether the ring region of a profile overlaps a page: one of the two begins inside the other (R82). -/
def Page.ringMeetsPage (p : Page) (page : PageNo) : Bool := p.hasRing && (p.inRing (addrAt page 0) || pageOf p.ringStart == page)

/-- Whether the boost address of a profile that enables the boost lies in one of its three regions (R117). -/
def Page.boostAtFault (p : Page) (strap : PageNo) : Bool :=
  p.boostEnable && (pageOf p.boostAddr == strap || pageOf p.boostAddr == reportPageOf strap || p.inRing p.boostAddr)

end Sys2Proof.Machine
end

