-- ==== Sys2Proof/Machine/Apply.lean ====
section
/-! DEFINITION. Applies (11.3): the tests of R159 and what every block does at an accepted apply (R160). -/

namespace Sys2Proof.Machine

/-! ### The range tests (R159, test 2) -/

/-- Whether a number lies in a range. -/
def within (lo hi v : Nat) : Bool := decide (lo ≤ v) && decide (v ≤ hi)

/-- Whether a signed number lies in a range. -/
def withinInt (lo hi v : Int) : Bool := decide (lo ≤ v) && decide (v ≤ hi)

/-- The range tests of the words below the window table, each with the offset it is charged to: frame rate code, RING_BASE with the ring
region's place (R82), RING_LENGTH, T, E, exit hold, boost address (R117), STILLNESS. -/
def Page.deviceTests (p : Page) (strap : PageNo) : List (Nat × Bool) :=
  [(0x02, p.frameRate.isSome),
   (0x04, within 0 1023 p.ringBase && !p.ringMeetsPage strap && !p.ringMeetsPage (reportPageOf strap)),
   (0x05, p.ringLength == 0 || within 2 80 p.ringLength),
   (0x06, within 0 32767 p.threshold),
   (0x07, within 1 255 p.entryLevel),
   (0x08, within 100 25500 p.exitHoldMs),
   (0x09, !p.boostAtFault strap),
   (0x10, within 0 32767 p.stillness)]

/-- The test of each window entry, charged to its first word (R85). -/
def Page.windowTests (p : Page) (strap : PageNo) : List (Nat × Bool) :=
  (List.finRange 8).map fun w => (0x20 + 3 * w.val, !p.windowAtFault strap w)

/-- The range tests of an axis block, made only where the axis is enabled in the page (R159, R165). The test of lo below hi concerns two
words and is charged to the first: DEDUCED, unsafe (assumption log 13). -/
def Page.axisTests (p : Page) (a : AxisId) : List (Nat × Bool) :=
  let b := 0x40 + 0x20 * a.val
  let m := p.mixing a
  [(b + 2, withinInt (-1024) 1023 m.x), (b + 3, withinInt (-1024) 1023 m.y), (b + 4, withinInt (-1024) 1023 m.z),
   (b + 5, within 6 16 (p.kCalm a) && within 6 16 (p.kRough a)),
   (b + 6, withinInt 1 32767 (p.stepCalm a)), (b + 7, withinInt 1 32767 (p.stepRough a)),
   (b + 8, decide (p.softLo a < p.softHi a)),
   (b + 11, within 10 2550 (p.dwellMs a)),
   (b + 12, within 1 16 (p.divider a))].map fun t => (t.1, !p.enabled a || t.2)

/-- Every test of step 2, in rising order of the offset it is charged to. -/
def Page.rangeTests (p : Page) (strap : PageNo) : List (Nat × Bool) :=
  p.deviceTests strap ++ p.windowTests strap ++ p.axisTests 0 ++ p.axisTests 1 ++ p.axisTests 2 ++ p.axisTests 3

/-- The lowest offset charged with a failed test. -/
def Page.rangeFault (p : Page) (strap : PageNo) : Option Offset :=
  ((p.rangeTests strap).find? fun t => !t.2).map fun t => BitVec.ofNat 8 t.1

/-! ### The other tests (R159, tests 3 to 5) -/

/-- The six PRIORITY fields are 1 to 6, each once (R141). -/
def Page.priorityOk (p : Page) : Bool := [1, 2, 3, 4, 5, 6].all fun n => p.priorityFields.contains n

/-- Every FAULT_POLICY field is allowed for its class (R138). -/
def Page.policyOk (p : Page) : Bool := FaultClass.all.all fun c => c.allows (p.policy c)

/-- Every axis is OFF. -/
def State.allOff (s : State) : Bool := !anyAxis fun a => s.axisActive a

/-- Whether some axis's enable, or an enabled axis's soft limits, differ (R160). -/
def axesDiffer (old new : Page) : Bool :=
  anyAxis fun a => old.enabled a != new.enabled a
    || (new.enabled a && (old.softLo a != new.softLo a || old.softHi a != new.softHi a))

/-- Whether a structural field differs between the active profile and the shadow (R160). -/
def structuralDiffer (old new : Page) : Bool :=
  axesDiffer old new || tablesDiffer old new || old.ringBase != new.ringBase || old.ringLength != new.ringLength
    || old.boostEnable != new.boostEnable || old.boostAddr != new.boostAddr

/-- Test 5: where any axis is not OFF, no structural field differs. -/
def State.structuralOk (s : State) (new : Page) : Bool :=
  s.allOff || match s.profile.active with
    | none => true
    | some old => !structuralDiffer old new

/-- The judgement of an apply: its result, and the offset reported (R159). -/
def State.judgeApply (s : State) : ApplyResult × Offset :=
  let p := s.profile.shadow
  if !s.profile.sweep.isDone then (.notReady, 0)
  else
    match p.rangeFault s.strapPage with
    | some w => (.range, w)
    | none =>
      if !p.priorityOk then (.priority, 0)
      else if !p.policyOk then (.policy, 0)
      else if !s.structuralOk p then (.structuralBusy, 0)
      else (.applied, 0)

/-! ### An accepted apply (R160) -/

/-- The binding that a table gives a queued write outside the three fixed regions (R97); other entries keep theirs. -/
def State.rebindEntry (s : State) (e : QEntry) : QEntry :=
  match e.txn with
  | .read _ _ => e
  | .write addr _ _ =>
    match s.classify addr with
    | .profileWord _ | .reportWord _ | .ringWord => e
    | c => { e with bind := c.binding }

/-- Whether an accepted apply changed the window table: with no profile before it, every entry counts as changed (R83, R160). -/
def tableChanged (old : Option Page) (new : Page) : Bool :=
  match old with
  | none => true
  | some p => tablesDiffer p new

/-- The queued writes bound anew (R97). -/
def State.rebindQueue (s : State) : State := { s with cport := { s.cport with queue := s.cport.queue.map s.rebindEntry } }

/-- Every output address unset and every intent-valid cleared; the recorded intents keep their values (R62). -/
def State.unsetAddresses (s : State) : State :=
  forAxes (fun a t => t.setAxis a { t.axis a with intentValid := false, outAddr := none }) s

/-- The Window Matcher's and the Axis Units' part where the window table changed (R62, R97). -/
def State.takeUpTable (s : State) (old : Option Page) : State :=
  if tableChanged old s.page then s.rebindQueue.unsetAddresses else s

/-- Every refresh count set to 0 (R53). -/
def State.clearRefreshCounts (s : State) : State := forAxes (fun a t => t.setAxis a { t.axis a with refreshCount := 0 }) s

/-- The Fault Monitor at an accepted apply (R143): the source classes are judged; the first apply takes up a standing frame-lost
condition; the headline and the STAT pattern are judged. That they are judged under the new priority list and policies once the source
classes have been is read from the order of R143's words: DEDUCED, unsafe (assumption log 14). -/
def State.takeUpFaults (s : State) (old : Option Page) : State :=
  let t := s.judgeSources
  let u := if old.isNone && t.timecode.frameLost then t.setFrameLost true else t
  u.judgeHeadline.judgeStat

/-- The shadow copied whole to become the active profile; PROFILE_STATE is marked dirty when the state changes (R160). -/
def State.activateProfile (s : State) : State :=
  { s with profile := { s.profile with active := some s.profile.shadow } }.markIf (!s.profileActive) .profileState

/-- Everything every block does at an accepted apply (R160). -/
def State.takeUpProfile (s : State) : State :=
  let old := s.profile.active
  ((((((((s.activateProfile).takeUpTable old).clearRefreshCounts).takeUpBoost old).takeUpRate).takeUpRing old).reviewSelection).takeUpFaults
    old)

/-- An apply request: judged, its result shown in APPLY_RESULT, APPLY_DONE raised, and the profile taken up where it is accepted; a
refused apply changes nothing further (R159). -/
def State.applyRequest (s : State) : State :=
  let t := ({ s with profile := { s.profile with applyResult := s.judgeApply.1, applyOffset := s.judgeApply.2 } }.mark
    .applyResult).raise .applyDone
  if s.judgeApply.1 = .applied then t.takeUpProfile else t

end Sys2Proof.Machine
end

