-- ==== Sys2Proof/Machine/Commands.lean ====
section
/-! DEFINITION. The commands of the COMMAND word (11.4): START, STOP, PARK and RELEASE (chapter 4), and the dispatch of every code. -/

namespace Sys2Proof.Machine

/-! ### START (R63, R64) -/

/-- Whether a class whose policy is HOLD_ALL is active (R63, test 5). -/
def State.holdAllActive (s : State) : Bool :=
  FaultClass.all.any fun c => decide (s.page.policy c = .holdAll) && s.classActive c

/-- An accepted START as the axis's record takes it: θ zeroed, the clamped intent as output, no correction, flags and count clear, the
silence timer started (R49, R64). -/
def startedAxis (p : Page) (a : AxisId) (ax : Axis) : Axis :=
  { ax with theta := 0, output := p.softClamp a ax.intent.toInt, correction := 0, rate := false, limit := false,
            refreshCount := 0, causes := .empty, silenceTimer := Timer.startUnlessZero (p.silenceMs a) }

/-- The output words of an axis marked dirty: OUTPUT, CORRECTION and AXIS_STATUS. -/
def State.markAxisWords (s : State) (a : AxisId) : State := ((s.mark (.output a)).mark (.correction a)).mark (.axisStatus a)

/-- START's effect (R64). -/
def State.startAxis (s : State) (a : AxisId) : State :=
  ((((s.setAxis a (startedAxis s.page a (s.axis a))).markRefresh a).setAxisState a .stabilising)).markAxisWords a

/-- START's own tests and its effect (R63, R64). -/
def startCommand (a : AxisId) (s : State) : CmdResult × State :=
  if !s.page.enabled a then (.disabled, s)
  else if (s.axis a).state ≠ .off then (.wrongState, s)
  else if !(s.axis a).intentValid then (.noIntent, s)
  else if s.selected = none then (.noSource, s)
  else if s.holdAllActive then (.faultActive, s)
  else (.done, s.startAxis a)

/-! ### STOP (R76) -/

/-- STOP's effect on an active axis: causes emptied, the refresh cancelled, the timers stopped, the axis classes ended, OFF (R76). The order
in which the classes end is the model's: DESIGN CHOICE, unsafe (assumption log 27). -/
def State.stopAxis (s : State) (a : AxisId) : State :=
  let t := (s.setAxis a { s.axis a with causes := .empty, silenceTimer := none, dwellTimer := none }).clearRefresh a
  ((((t.setAxisFlag .controllerSilent a false).setAxisFlag .limitDwell a false).setAxisState a .off)).mark (.axisStatus a)

/-- STOP: of an OFF axis it changes nothing (R76). -/
def stopCommand (a : AxisId) (s : State) : CmdResult × State :=
  if (s.axis a).state = .off then (.done, s) else (.done, s.stopAxis a)

/-! ### PARK (R73) and RELEASE (R74, R75) -/

/-- PARK: refused of an OFF axis; otherwise COMMAND joins the causes (R73). -/
def parkCommand (a : AxisId) (s : State) : CmdResult × State :=
  if (s.axis a).state = .off then (.wrongState, s) else (.done, s.hold a .command)

/-- Whether a cause of the axis blocks its release: a device class that is active, or an axis class active for this axis (R74). -/
def State.releaseBlocked (s : State) (a : AxisId) : Bool :=
  let ax := s.axis a
  (ax.causes.sourceLost && s.faults.sourceLost) || (ax.causes.sourceFallback && s.faults.sourceFallback)
    || (ax.causes.controllerSilent && ax.silentActive) || (ax.causes.limitDwell && ax.limitDwellActive)
    || (ax.causes.refreshLate && ax.lateActive)

/-- Steps 1, 2, 4 and 5 of an accepted RELEASE as the axis's record takes them (R75). -/
def releasedAxis (p : Page) (a : AxisId) (ax : Axis) : Axis :=
  { ax with causes := .empty, theta := if p.resumeMode a = .reset then 0 else ax.theta,
            silenceTimer := Timer.startUnlessZero (p.silenceMs a), refreshCount := 0 }

/-- RELEASE's effect: causes emptied, the resume mode applied, STABILISING, timers and count, one composition, a refresh (R75). -/
def State.releaseAxis (s : State) (a : AxisId) : State :=
  (((((s.setAxis a (releasedAxis s.page a (s.axis a))).setAxisState a .stabilising).compose a).markRefresh a)).markAxisWords a

/-- RELEASE's own tests and its effect (R74, R75). -/
def releaseCommand (a : AxisId) (s : State) : CmdResult × State :=
  if (s.axis a).state ≠ .held then (.wrongState, s)
  else if s.releaseBlocked a then (.faultActive, s)
  else (.done, s.releaseAxis a)

/-! ### Dispatch (R161) -/

/-- Whether a command code names its axis in the operand. -/
def takesAxis (code : Nat) : Bool := 1 ≤ code && code ≤ 4

/-- The axis of an operand, 0 to 3. -/
def axisOperand (operand : Byte) : AxisId := Fin.ofNat 4 operand.toNat

/-- A command that has passed the common tests, handed to its owner; a code the table does not know is refused (R161, test 4). -/
def ownerCommand (code : Nat) (a : AxisId) (s : State) : CmdResult × State :=
  match code with
  | 1 => startCommand a s
  | 2 => stopCommand a s
  | 3 => parkCommand a s
  | 4 => releaseCommand a s
  | 5 => zeroCommand s
  | 6 => exciteCommand s
  | 7 => tcSetCommand s
  | 8 => sourceReturnCommand s
  | _ => (.unknown, s)

/-- A command's tests and effect: the common tests first (R161). -/
def runCommand (code operand : Byte) (s : State) : CmdResult × State :=
  if !s.profile.sweep.isDone then (.notReady, s)
  else if !s.profileActive && code != 7 then (.noProfile, s)
  else if takesAxis code.toNat && decide (3 < operand.toNat) then (.badAxis, s)
  else ownerCommand code.toNat (axisOperand operand) s

/-- A command's result reported: COMMAND_RESULT takes the code as written and the result, and COMMAND_DONE is raised (R161). -/
def State.reportCommand (s : State) (code : Byte) (r : CmdResult) : State :=
  ({ s with profile := { s.profile with cmdCode := code, cmdResult := r } }.mark .commandResult).raise .commandDone

/-- A COMMAND word handed to the Profile Unit: code 0x00 is no operation (R161). -/
def State.command (s : State) (w : Word) : State :=
  if highByte w = 0 then s
  else
    let r := runCommand (highByte w) (lowByte w) s
    r.2.reportCommand (highByte w) r.1

end Sys2Proof.Machine
end

