-- ==== Sys2Proof/Machine/ControllerPort.lean ====
section
/-! DEFINITION. The C-port (6.1) and what the acceptance of a transaction does (chapter 5). -/

namespace Sys2Proof.Machine

/-! ### When the C-port accepts (R99, R100, R108) -/

/-- A queue entry of a read. -/
def QEntry.isRead (e : QEntry) : Bool :=
  match e.txn with
  | .read _ _ => true
  | .write _ _ _ => false

/-- A transaction in progress that is a read of the arm controller. -/
def MTxn.isControllerRead (t : MTxn) : Bool :=
  match t.kind with
  | .controllerRead _ => true
  | .controllerWrite | .refresh _ | .boost | .report | .ringWord _ | .sweepRead => false

/-- A read of the arm controller is in flight from its acceptance to its return (R100). -/
def State.readInFlight (s : State) : Bool := s.cport.queue.any QEntry.isRead || s.mport.busy.any MTxn.isControllerRead

/-- The C-port accepts a transaction: no reset stands, the queue holds fewer than 12 entries, and no read is in flight. -/
def State.cportOpen (s : State) : Bool := !s.resetHeld && decide (s.cport.queue.length < 12) && !s.readInFlight

/-! ### Acceptance -/

/-- A transaction joins the controller queue as its newest entry (R101). -/
def State.enqueue (s : State) (t : BusTxn) (bind : Option AxisId) : State :=
  { s with cport := { s.cport with queue := s.cport.queue ++ [{ txn := t, bind := bind }] } }

/-- A discarded write: STRAY_WRITE is raised and the write takes no entry (R96). -/
def State.stray (s : State) : State := s.raise .strayWrite

/-- A write merged into the shadow, its word marked touched (R88). -/
def State.mergeShadow (s : State) (w : Offset) (data : Word) (lanes : Lanes) : State :=
  { s with profile := { s.profile with
    shadow := s.profile.shadow.setWord w (mergeLanes lanes data (s.profile.shadow.word w)),
    touched := s.profile.touched.set w.toNat true w.isLt } }

/-- The apply code. -/
def applyCode : Word := 0x00A5

/-- What a profile word hands the Profile Unit after its merge: COMMAND a command, APPLY an apply request where it holds the apply code
(R88, R159, R161). -/
def State.handOn (s : State) (w : Offset) : State :=
  if w = 0x00 then s.command (s.profile.shadow.word 0x00)
  else if w = 0x01 then (if s.profile.shadow.word 0x01 = applyCode then s.applyRequest else s)
  else s

/-- A RING_CONSUMER write: a valid index moves q and the write passes; an invalid one is discarded (R89, R153). -/
def State.consumerWrite (s : State) (addr : Addr) (data : Word) (lanes : Lanes) : State :=
  if s.consumerValid (s.proposedConsumer data lanes) then
    (s.moveConsumer (s.proposedConsumer data lanes)).enqueue (.write addr data lanes) none
  else s.stray

/-- The acceptance of a write that enables a lane, by its class (R86 to R96). -/
def State.acceptClassified (s : State) (addr : Addr) (data : Word) (lanes : Lanes) : State :=
  match s.classify addr with
  | .profileWord w => ((s.mergeShadow w data lanes).enqueue (.write addr data lanes) none).handOn w
  | .reportWord w => if w = 0x10 then s.consumerWrite addr data lanes else s.stray
  | .ringWord => s.stray
  | .intent a => (s.enqueue (.write addr data lanes) (some a)).recordIntent a addr data lanes
  | .guard a => if s.axisActive a then s.stray else s.enqueue (.write addr data lanes) none
  | .unmatched => s.enqueue (.write addr data lanes) none

/-- The acceptance of a transaction: a lane-less write is dropped (R87), any other write acts by its class, a read joins the queue with its
intent binding and no effect on any block (R86, R93). -/
def State.accept (s : State) : BusTxn → State
  | .write addr data lanes => if lanes = .neither then s else s.acceptClassified addr data lanes
  | .read addr lanes => s.enqueue (.read addr lanes) (s.classify addr).binding

/-- The transactions that the arm controller has on offer, accepted in order while the C-port accepts; the rest stay stretched (R99,
R100). -/
def State.acceptOffers (s : State) : List BusTxn → State
  | [] => { s with cport := { s.cport with offered := [] } }
  | t :: rest =>
    if s.cportOpen then (s.accept t).acceptOffers rest
    else { s with cport := { s.cport with offered := t :: rest } }

/-- The arm controller offers a transaction, behind any that is still stretched. -/
def State.offer (s : State) (t : BusTxn) : State := s.acceptOffers (s.cport.offered ++ [t])

/-- The transactions still stretched, looked at again when room or a read's return may have opened the C-port. -/
def State.admitStretched (s : State) : State := s.acceptOffers s.cport.offered

/-- The arm controller's write of a profile word, both lanes. -/
def State.offerProfileWrite (s : State) (w : Offset) (data : Word) : State :=
  s.offer (.write (addrAt s.strapPage w) data .both)

/-- The arm controller's write of a command to COMMAND, both lanes. -/
def State.offerCommand (s : State) (code operand : Byte) : State := s.offerProfileWrite 0x00 (ofBytes code operand)

end Sys2Proof.Machine
end

