-- ==== Sys2Proof/Machine/Controller.lean ====
section
/-! DEFINITION. The transactions of the arm controller: each is offered at the C-port, and acts at its acceptance (R80, R86), at once where
the C-port accepts it, later where it is stretched (R99, R100). -/

namespace Sys2Proof.Machine

/-- START (R63, R64): code 0x01. -/
def execStart (operand : Byte) (s : State) : Host.Outcome State Fault Refusal := .next (s.offerCommand 0x01 operand)

/-- STOP (R76): code 0x02. -/
def execStop (operand : Byte) (s : State) : Host.Outcome State Fault Refusal := .next (s.offerCommand 0x02 operand)

/-- PARK (R73): code 0x03. -/
def execPark (operand : Byte) (s : State) : Host.Outcome State Fault Refusal := .next (s.offerCommand 0x03 operand)

/-- RELEASE (R74, R75): code 0x04. -/
def execRelease (operand : Byte) (s : State) : Host.Outcome State Fault Refusal := .next (s.offerCommand 0x04 operand)

/-- ZERO (R33): code 0x05. -/
def execZero (operand : Byte) (s : State) : Host.Outcome State Fault Refusal := .next (s.offerCommand 0x05 operand)

/-- EXCITE (R121, R122): code 0x06. -/
def execExcite (operand : Byte) (s : State) : Host.Outcome State Fault Refusal := .next (s.offerCommand 0x06 operand)

/-- TC_SET (R146): code 0x07. -/
def execTcSet (operand : Byte) (s : State) : Host.Outcome State Fault Refusal := .next (s.offerCommand 0x07 operand)

/-- SOURCE_RETURN (R15): code 0x08. -/
def execSourceReturn (operand : Byte) (s : State) : Host.Outcome State Fault Refusal := .next (s.offerCommand 0x08 operand)

/-- UNKNOWN_COMMAND (R161): a code from 0x09 to 0xFF. -/
def execUnknownCommand (code operand : Byte) (s : State) : Host.Outcome State Fault Refusal := .next (s.offerCommand code operand)

/-- APPLY (R159): the apply code to APPLY. -/
def execApply (s : State) : Host.Outcome State Fault Refusal := .next (s.offerProfileWrite 0x01 applyCode)

/-- INTENT_WRITE (R91): a write to an address that an INTENT window decides; to another address it acts by that address's class. DESIGN
CHOICE, safe (assumption log 2). -/
def execIntentWrite (addr : Addr) (data : Word) (lanes : Lanes) (s : State) : Host.Outcome State Fault Refusal :=
  .next (s.offer (.write addr data lanes))

/-- RING_CONSUMER (R153): a write to the RING_CONSUMER word of the report page. -/
def execRingConsumer (data : Word) (lanes : Lanes) (s : State) : Host.Outcome State Fault Refusal :=
  .next (s.offer (.write (addrAt s.reportPage 0x10) data lanes))

/-- CONTROLLER_WRITE (R86): a write to any address, classified by it alone. -/
def execControllerWrite (addr : Addr) (data : Word) (lanes : Lanes) (s : State) : Host.Outcome State Fault Refusal :=
  .next (s.offer (.write addr data lanes))

/-- CONTROLLER_READ (R100): a read of any address. -/
def execControllerRead (addr : Addr) (lanes : Lanes) (s : State) : Host.Outcome State Fault Refusal :=
  .next (s.offer (.read addr lanes))

end Sys2Proof.Machine
end

