-- ==== Sys2Proof/Machine/MemoryPort.lean ====
section
/-! DEFINITION. The M-port and its arbiter (6.3): which request is granted, what each grant carries, and what each ready does. -/

namespace Sys2Proof.Machine

/-! ### Requests and the arbiter (R102 to R104) -/

/-- The port is free to be granted: no reset stands and no transaction holds it. -/
def State.portFree (s : State) : Bool := !s.resetHeld && s.mport.busy.isNone

/-- The lowest axis whose refresh waits. -/
def State.refreshWaiting (s : State) : Option AxisId := (List.finRange 4).find? fun a => (s.axis a).refreshPending

/-- A boost value waits to be written. -/
def State.boostWaiting (s : State) : Bool := s.severity.boostHeld.isSome

/-- A report word waits. -/
def State.reportWaiting (s : State) : Bool := s.lowestDirty.isSome

/-- A staged record word waits. -/
def State.ringWaiting (s : State) : Bool := s.nextRingWord.isSome

/-- A sweep read waits. -/
def State.sweepWaiting (s : State) : Bool := !s.profile.sweep.isDone

/-- The own requests in the order of their ranks (R103). -/
inductive OwnRequest where
  | refresh
  | boost
  | report
  | ring
  | sweep
deriving DecidableEq, Repr

/-- The own request of the highest rank that waits (R103). -/
def State.topOwn (s : State) : Option OwnRequest :=
  if s.refreshWaiting.isSome then some .refresh
  else if s.boostWaiting then some .boost
  else if s.reportWaiting then some .report
  else if s.ringWaiting then some .ring
  else if s.sweepWaiting then some .sweep
  else none

/-- Whether the arbiter grants the queue head now: the head waits, and no own request waits or the starvation count is below 4 (R104). -/
def State.grantsHead (s : State) : Bool :=
  s.portFree && !s.cport.queue.isEmpty && (s.topOwn.isNone || decide (s.mport.starvation < 4))

/-- Whether the arbiter grants an own request now: it is the highest in rank, and no queue head waits or the starvation count stands at 4
(R104). -/
def State.grantsOwn (s : State) (r : OwnRequest) : Bool :=
  s.portFree && s.topOwn == some r && (s.cport.queue.isEmpty || decide (4 ≤ s.mport.starvation))

/-- A transaction begins on the M-port. -/
def State.begin (s : State) (t : MTxn) : State := { s with mport := { s.mport with busy := some t } }

/-- An own transaction begins: the starvation count becomes 0 (R104). -/
def State.beginOwn (s : State) (t : MTxn) : State := { s with mport := { s.mport with busy := some t, starvation := 0 } }

/-! ### The grant of the queue head (R105, R106) -/

/-- The output of an axis as a write carries it. -/
def State.outputWord (s : State) (a : AxisId) : Word := word16 (s.axis a).output

/-- The transaction that a granted queue entry becomes: an intent-bound write of an active axis carries the axis's output with both lanes, as
does an unbound write to an address that an INTENT window of an active axis matches; every other write carries its accepted data and lanes
(R105, R106). A read is held with data 0, since it drives none: DESIGN CHOICE, unsafe (assumption log 28). -/
def State.carried (s : State) (e : QEntry) : MTxn :=
  match e.txn with
  | .read addr lanes => { kind := .controllerRead e.bind, addr := addr, data := 0, lanes := lanes }
  | .write addr data lanes =>
    match e.bind with
    | some a =>
      if s.axisActive a then { kind := .controllerWrite, addr := addr, data := s.outputWord a, lanes := .both }
      else { kind := .controllerWrite, addr := addr, data := data, lanes := lanes }
    | none =>
      match s.activeIntentAxis addr with
      | some a => { kind := .controllerWrite, addr := addr, data := s.outputWord a, lanes := .both }
      | none => { kind := .controllerWrite, addr := addr, data := data, lanes := lanes }

/-- The refresh that a granted entry satisfies: that of the axis it is bound to, active and with the entry's address as its output address
(R55). -/
def State.satisfies (s : State) (e : QEntry) : Option AxisId :=
  match e.txn, e.bind with
  | .write addr _ _, some a => if s.axisActive a && (s.axis a).outAddr == some addr then some a else none
  | .write _ _ _, none => none
  | .read _ _, _ => none

/-- The starvation count after a grant to the queue head (R104). -/
def State.headStarvation (s : State) : Nat := if s.topOwn.isSome then s.mport.starvation + 1 else 0

/-- The grant of a queue entry, the queue's head, with the rest of the queue left (R104, R105). -/
def State.grantEntry (s : State) (e : QEntry) (rest : List QEntry) : State :=
  let t := { s with cport := { s.cport with queue := rest },
                    mport := { s.mport with busy := some (s.carried e), starvation := s.headStarvation } }
  match s.satisfies e with
  | some a => t.clearRefresh a
  | none => t

/-- QUEUE_HEAD_GRANT: the head is granted where the arbiter grants it, and a stretched transaction is accepted into the room (R99). -/
def State.grantHead (s : State) : State :=
  if s.grantsHead then
    match s.cport.queue with
    | [] => s
    | e :: rest => (s.grantEntry e rest).admitStretched
  else s

/-! ### The grants of own requests (R103) -/

/-- REFRESH_GRANT: the axis's output to its output address, both lanes; the mark is cleared and the deadline timer stopped (R54). -/
def State.grantRefresh (s : State) : State :=
  if s.grantsOwn .refresh then
    match s.refreshWaiting with
    | none => s
    | some a =>
      (s.beginOwn { kind := .refresh a, addr := (s.axis a).outAddr.getD 0, data := s.outputWord a, lanes := .both }).clearRefresh a
  else s

/-- BOOST_GRANT: the held value to the boost address; the held value is taken (R116). -/
def State.grantBoost (s : State) : State :=
  if s.grantsOwn .boost then
    match s.severity.boostHeld with
    | none => s
    | some v =>
      { s with severity := { s.severity with boostHeld := none } }.beginOwn
        { kind := .boost, addr := s.page.boostAddr, data := v, lanes := .both }
  else s

/-- The address of a report word. -/
def State.reportAddr (s : State) (w : ReportWord) : Addr := addrAt s.reportPage (BitVec.ofNat 8 w.offset.val)

/-- REPORT_WORD_GRANT: the lowest dirty word's copy to the report page; its mark is cleared (R162). -/
def State.grantReport (s : State) : State :=
  if s.grantsOwn .report then
    match s.lowestDirty with
    | none => s
    | some w => (s.unmark w).beginOwn { kind := .report, addr := s.reportAddr w, data := s.reportWord w, lanes := .both }
  else s

/-- RING_WORD_GRANT: the next staged word to its slot address; the count of words granted advances (R103, R152). -/
def State.grantRing (s : State) : State :=
  if s.grantsOwn .ring then
    match s.nextRingWord with
    | none => s
    | some (addr, data) =>
      { s with ring := { s.ring with granted := s.ring.granted + 1 } }.beginOwn
        { kind := .ringWord true, addr := addr, data := data, lanes := .both }
  else s

/-- SWEEP_READ_GRANT: the read of the profile word at the sweep position (R157). The rules name no byte lanes for it (R103); the model enables
both, and holds it with data 0, since it drives none: DESIGN CHOICE, unsafe (assumption log 28). -/
def State.grantSweep (s : State) : State :=
  if s.grantsOwn .sweep then
    match s.profile.sweep with
    | .done => s
    | .sweeping pos => s.beginOwn { kind := .sweepRead, addr := addrAt s.strapPage pos, data := 0, lanes := .both }
  else s

/-! ### Ready (R102) -/

/-- A write reaches the RAM. -/
def State.store (s : State) (t : MTxn) : State := { s with ram := s.ram.writeWord t.addr t.data t.lanes }

/-- The port becomes free. -/
def State.freePort (s : State) : State := { s with mport := { s.mport with busy := none } }

/-- WRITE_COMPLETE: the ready of a write other than a ring record word. -/
def State.completeWrite (s : State) : State :=
  match s.mport.busy with
  | none => s
  | some t =>
    match t.kind with
    | .controllerWrite | .refresh _ | .boost | .report => (s.store t).freePort
    | .controllerRead _ | .ringWord _ | .sweepRead => s

/-- RING_WORD_DONE: the ready of a ring record word; it advances the write position unless its record is no longer staged (R152, R154). -/
def State.completeRingWord (s : State) : State :=
  match s.mport.busy with
  | none => s
  | some t =>
    match t.kind with
    | .ringWord current => if current then ((s.store t).freePort).ringWordWritten else (s.store t).freePort
    | .controllerWrite | .controllerRead _ | .refresh _ | .boost | .report | .sweepRead => s

/-- A swept word placed in the shadow where its touched mark is clear (R157). -/
def State.placeSwept (s : State) (pos : Offset) (w : Word) : State :=
  if s.profile.touched[pos.toNat]'pos.isLt then s
  else { s with profile := { s.profile with shadow := s.profile.shadow.setWord pos w } }

/-- The end of the sweep: DONE, SWEEP_DONE raised, and the start-up apply where the shadow's APPLY word holds the apply code (R158). -/
def State.endSweep (s : State) : State :=
  let t := ({ s with profile := { s.profile with sweep := .done } }.raise .sweepDone).mark .profileState
  if t.profile.shadow.word 0x01 = applyCode then t.applyRequest else t

/-- SWEEP_READ_DONE: the ready of a sweep read (R157, R158). -/
def State.completeSweepRead (s : State) : State :=
  match s.mport.busy, s.profile.sweep with
  | some t, .sweeping pos =>
    match t.kind with
    | .sweepRead =>
      let u := (s.freePort).placeSwept pos (s.ram.readWord t.addr)
      if pos = 0xFF then u.endSweep else { u with profile := { u.profile with sweep := .sweeping (pos + 1) } }
    | .controllerWrite | .controllerRead _ | .refresh _ | .boost | .report | .ringWord _ => s
  | _, _ => s

/-! ### Read return (R107) -/

/-- The three conditions of read-back (R93). -/
def State.readsBack (s : State) (a : AxisId) (addr : Addr) : Bool :=
  s.page.readback a && s.axisActive a && (s.axis a).outAddr == some addr

/-- The word a read returns: the axis's output where it is read back, else the RAM's (R93, R107). -/
def State.returnedWord (s : State) (bind : Option AxisId) (addr : Addr) : Word :=
  match bind with
  | none => s.ram.readWord addr
  | some a => if s.readsBack a addr then s.outputWord a else s.ram.readWord addr

/-- The return of a read: read-back, the clearing of reported events, and the word driven to the arm controller; the port is free and the
C-port may accept again (R107, R164). -/
def State.returnRead (s : State) (bind : Option AxisId) (addr : Addr) : State :=
  let w := s.returnedWord bind addr
  let t := if addr = s.eventPendingAddr then s.clearEvents w else s
  ({ t with cport := { t.cport with readData := some w } }.freePort).admitStretched

/-- READ_RETURN: the ready of a read of the arm controller. -/
def State.completeRead (s : State) : State :=
  match s.mport.busy with
  | none => s
  | some t =>
    match t.kind with
    | .controllerRead bind => s.returnRead bind t.addr
    | .controllerWrite | .refresh _ | .boost | .report | .ringWord _ | .sweepRead => s

/-- EVENT_PENDING: the ready of a read of the EVENT_PENDING word; READ_RETURN of that read does the same. DESIGN CHOICE, safe (assumption
log 22). -/
def State.completeEventRead (s : State) : State :=
  match s.mport.busy with
  | none => s
  | some t => if t.addr = s.eventPendingAddr then s.completeRead else s

end Sys2Proof.Machine
end

