-- ==== Sys2Proof/Machine/Port.lean ====
section
/-! DEFINITION. The arbiter's grants and the RAM's readys. A grant that the arbiter would not make now (R104), and a ready of a transaction
that is not in progress, do not happen, and nothing changes: DESIGN CHOICE, safe (assumption log 6). The arbiter alone names what it grants,
so the grants take no operands (assumption log 21). -/

namespace Sys2Proof.Machine

/-- QUEUE_HEAD_GRANT (R105). -/
def execQueueHeadGrant (s : State) : Host.Outcome State Fault Refusal := .next s.grantHead

/-- REFRESH_GRANT (R103, R54). -/
def execRefreshGrant (s : State) : Host.Outcome State Fault Refusal := .next s.grantRefresh

/-- BOOST_GRANT (R116). -/
def execBoostGrant (s : State) : Host.Outcome State Fault Refusal := .next s.grantBoost

/-- REPORT_WORD_GRANT (R162). -/
def execReportWordGrant (s : State) : Host.Outcome State Fault Refusal := .next s.grantReport

/-- RING_WORD_GRANT (R152). -/
def execRingWordGrant (s : State) : Host.Outcome State Fault Refusal := .next s.grantRing

/-- SWEEP_READ_GRANT (R157). -/
def execSweepReadGrant (s : State) : Host.Outcome State Fault Refusal := .next s.grantSweep

/-- WRITE_COMPLETE (R102). -/
def execWriteComplete (s : State) : Host.Outcome State Fault Refusal := .next s.completeWrite

/-- RING_WORD_DONE (R152). -/
def execRingWordDone (s : State) : Host.Outcome State Fault Refusal := .next s.completeRingWord

/-- SWEEP_READ_DONE (R157, R158). -/
def execSweepReadDone (s : State) : Host.Outcome State Fault Refusal := .next s.completeSweepRead

/-- READ_RETURN (R107). -/
def execReadReturn (s : State) : Host.Outcome State Fault Refusal := .next s.completeRead

/-- EVENT_PENDING (R164). -/
def execEventPending (s : State) : Host.Outcome State Fault Refusal := .next s.completeEventRead

end Sys2Proof.Machine
end

