-- ==== Sys2Proof/Config.lean ====
section
/-! DEFINITION. What the manual leaves open and the model leaves free. -/

namespace Sys2Proof.Config

/-- Whether the RAM had taken a write that a reset ended (R108: "A write so ended leaves its word holding either its old
value or the written value, as far as the RAM had taken it"). A free value: nothing constrains it. Its argument is the number
of writes that resets have ended before this one (`MPort.cuts` of the state). DESIGN CHOICE, safe: both outcomes stay open (assumption
log 1). -/
opaque cutWriteLands : Nat → Bool

end Sys2Proof.Config
end

