-- ==== Sys2Proof/Machine/Resets.lean ====
section
/-! DEFINITION. The two resets and their end: POWER_ON_RESET, LINE_RESET, RESET_END. -/

namespace Sys2Proof.Machine

/-- A transaction in progress that is a write. -/
def MTxn.isWrite (t : MTxn) : Bool :=
  match t.kind with
  | .controllerWrite | .refresh _ | .boost | .report | .ringWord _ => true
  | .controllerRead _ | .sweepRead => false

/-- The M-port's traffic ended by a reset: a write in progress leaves its word with the old value or the written one, which is left free
(R108; DESIGN CHOICE, safe: assumption log 1); a read is discarded; the starvation count becomes 0. -/
def State.cutTraffic (s : State) : State :=
  match s.mport.busy with
  | none => { s with mport := { s.mport with starvation := 0 } }
  | some t =>
    if t.isWrite then
      let u := if Config.cutWriteLands s.mport.cuts then s.store t else s
      { u with mport := { busy := none, starvation := 0, cuts := s.mport.cuts + 1 } }
    else { s with mport := { s.mport with busy := none, starvation := 0 } }

/-- What both resets do to every block (R19, R39, R59, R79, R98, R108, R120, R130, R144, R149, R155, R156, R162, R163): all but the biases
and the timecode, which `bias` and `timecode` give. -/
def State.resetBlocks (s : State) (bias : PerSource Channels) (timecode : Timecode) : State :=
  { s.cutTraffic with
    resetHeld := true, links := ⟨.reset, .reset⟩, selected := none, bias := bias, capture := .reset, zeroResult := .none,
    axes := Vector.replicate 4 .reset, cport := .reset, severity := .reset, burst := .reset, exciteResult := .none,
    faults := .reset, timecode := timecode, ring := .reset, profile := .reset, report := .reset }

/-- The Timecode Counter at a line reset: the timecode, its state and the rate in force are kept, the pending set dropped, the frame-lost
measure cleared (R144, R149). -/
def Timecode.lineReset (t : Timecode) : Timecode := { t with pendingSet := none, frameLostTimer := none, frameLost := false }

/-- The end of a reset: the straps are read (R81), and from here the sweep runs and the C-port accepts (R98, R108, R157). -/
def State.endReset (s : State) (straps : PageNo) : State :=
  if s.resetHeld then { s with resetHeld := false, strapPage := straps }.admitStretched else s

/-- POWER_ON_RESET (R39): supply is applied; biases 0, timecode 00:00:00:00 INVALID at rate 30. -/
def execPowerOnReset (s : State) : Host.Outcome State Fault Refusal := .next (s.resetBlocks ⟨.zero, .zero⟩ .powerOn)

/-- LINE_RESET (R108): RESET is asserted; biases and the timecode are kept. -/
def execLineReset (s : State) : Host.Outcome State Fault Refusal := .next (s.resetBlocks s.bias s.timecode.lineReset)

/-- RESET_END (R81): the reset that stands ends; with none standing there is none to end. -/
def execResetEnd (straps : PageNo) (s : State) : Host.Outcome State Fault Refusal := .next (s.endReset straps)

end Sys2Proof.Machine
end

