-- ==== Sys2Proof/Machine/Serial.lean ====
section
/-! DEFINITION. The events of the serial lines IA and IB (chapter 1). While RESET is held the Link Receiver receives nothing (R19). -/

namespace Sys2Proof.Machine

/-- GOOD_BYTE (R5). -/
def execGoodByte (line : Source) (byte : Byte) (s : State) : Host.Outcome State Fault Refusal :=
  .next (if s.resetHeld then s else s.goodByte line byte)

/-- FRAMING_ERROR (R2). -/
def execFramingError (line : Source) (s : State) : Host.Outcome State Fault Refusal :=
  .next (if s.resetHeld then s else s.framingError line)

/-- BYTE_TIMEOUT (R6). -/
def execByteTimeout (line : Source) (s : State) : Host.Outcome State Fault Refusal :=
  .next (if s.resetHeld then s else s.byteTimeout line)

/-- INERTIAL_FRAME (R8): the check of the complete frame; with no complete frame in the buffer there is none to check. -/
def execInertialFrame (line : Source) (s : State) : Host.Outcome State Fault Refusal :=
  .next (if s.resetHeld then s else s.checkFrame line)

end Sys2Proof.Machine
end

