-- ==== Sys2Proof/Machine/TimeBase.lean ====
section
/-! DEFINITION. The Time Base's pulse (R1), the timers' expiries, and FRAME pulses. An expiry is an event of its own, taken after the pulse
that ran its timer out; where its timer has been stopped or restarted meanwhile it does not happen, and nothing changes. -/

namespace Sys2Proof.Machine

/-- A source's stale timer counting a pulse. -/
def Link.tick (l : Link) : Link := { l with staleTimer := l.staleTimer.tick }

/-- An axis's silence, dwell and refresh-deadline timers counting a pulse. -/
def Axis.tick (ax : Axis) : Axis :=
  { ax with deadlineTimer := ax.deadlineTimer.tick, silenceTimer := ax.silenceTimer.tick, dwellTimer := ax.dwellTimer.tick }

/-- Every running timer of the part counting a pulse (R1). -/
def State.tick (s : State) : State :=
  { s with
    links := ⟨s.links.a.tick, s.links.b.tick⟩, axes := s.axes.map Axis.tick,
    severity := { s.severity with
      settleTimer := s.severity.settleTimer.tick, exitHoldTimer := s.severity.exitHoldTimer.tick },
    faults := { s.faults with blinkTimer := s.faults.blinkTimer.tick },
    timecode := { s.timecode with frameLostTimer := s.timecode.frameLostTimer.tick } }

/-- TIME_BASE_PULSE (R1): no pulse is given while RESET is held. -/
def execTimeBasePulse (s : State) : Host.Outcome State Fault Refusal := .next (if s.resetHeld then s else s.tick)

/-- STALE_EXPIRY (R11, R14). -/
def execStaleExpiry (src : Source) (s : State) : Host.Outcome State Fault Refusal := .next (s.staleExpiry src)

/-- SILENCE_EXPIRY (R67, R133). -/
def execSilenceExpiry (a : AxisId) (s : State) : Host.Outcome State Fault Refusal := .next (s.silenceExpiry a)

/-- DWELL_EXPIRY (R134). -/
def execDwellExpiry (a : AxisId) (s : State) : Host.Outcome State Fault Refusal := .next (s.dwellExpiry a)

/-- REFRESH_DEADLINE_EXPIRY (R57, R136). -/
def execRefreshDeadlineExpiry (a : AxisId) (s : State) : Host.Outcome State Fault Refusal := .next (s.deadlineExpiry a)

/-- The half-period of a blink pattern running out: the lamp turns, and the next half begins (R142). -/
def State.toggleLamp (s : State) : State :=
  if s.faults.blinkTimer.due then
    { s with faults := { s.faults with lampLit := !s.faults.lampLit, blinkTimer := s.faults.pattern.halfMs } }
  else s

/-- STAT_BLINK_TOGGLE (R142). -/
def execStatBlinkToggle (s : State) : Host.Outcome State Fault Refusal := .next s.toggleLamp

/-- SETTLE_EXPIRY (R112). -/
def execSettleExpiry (s : State) : Host.Outcome State Fault Refusal := .next s.settleExpiry

/-- EXIT_HOLD_EXPIRY (R114). -/
def execExitHoldExpiry (s : State) : Host.Outcome State Fault Refusal := .next s.exitHoldExpiry

/-- FRAME_LOST_EXPIRY (R137). -/
def execFrameLostExpiry (s : State) : Host.Outcome State Fault Refusal := .next s.frameLostExpiry

/-- FRAME_PULSE (R145): the pulse reaches the timecode also while RESET is held (R149). -/
def execFramePulse (s : State) : Host.Outcome State Fault Refusal := .next s.framePulse

end Sys2Proof.Machine
end

