-- ==== Sys2Proof/Machine/Dispatch.lean ====
section
/-! DEFINITION. The dispatcher: each command's meaning. -/

namespace Sys2Proof.Machine

/-- The effect of a command on everything but the queue of waiting commands. -/
def exec (i : Instr) (s : State) : Host.Outcome State Fault Refusal :=
  match i with
  | .powerOnReset => Sys2Proof.Machine.execPowerOnReset s
  | .lineReset => Sys2Proof.Machine.execLineReset s
  | .resetEnd straps => Sys2Proof.Machine.execResetEnd straps s
  | .timeBasePulse => Sys2Proof.Machine.execTimeBasePulse s
  | .goodByte line byte => Sys2Proof.Machine.execGoodByte line byte s
  | .framingError line => Sys2Proof.Machine.execFramingError line s
  | .byteTimeout line => Sys2Proof.Machine.execByteTimeout line s
  | .inertialFrame line => Sys2Proof.Machine.execInertialFrame line s
  | .staleExpiry source => Sys2Proof.Machine.execStaleExpiry source s
  | .silenceExpiry axis => Sys2Proof.Machine.execSilenceExpiry axis s
  | .dwellExpiry axis => Sys2Proof.Machine.execDwellExpiry axis s
  | .refreshDeadlineExpiry axis => Sys2Proof.Machine.execRefreshDeadlineExpiry axis s
  | .statBlinkToggle => Sys2Proof.Machine.execStatBlinkToggle s
  | .settleExpiry => Sys2Proof.Machine.execSettleExpiry s
  | .exitHoldExpiry => Sys2Proof.Machine.execExitHoldExpiry s
  | .frameLostExpiry => Sys2Proof.Machine.execFrameLostExpiry s
  | .framePulse => Sys2Proof.Machine.execFramePulse s
  | .start operand => Sys2Proof.Machine.execStart operand s
  | .stop operand => Sys2Proof.Machine.execStop operand s
  | .park operand => Sys2Proof.Machine.execPark operand s
  | .release operand => Sys2Proof.Machine.execRelease operand s
  | .zero operand => Sys2Proof.Machine.execZero operand s
  | .excite operand => Sys2Proof.Machine.execExcite operand s
  | .tcSet operand => Sys2Proof.Machine.execTcSet operand s
  | .sourceReturn operand => Sys2Proof.Machine.execSourceReturn operand s
  | .unknownCommand code operand => Sys2Proof.Machine.execUnknownCommand code operand s
  | .apply => Sys2Proof.Machine.execApply s
  | .intentWrite addr data lanes => Sys2Proof.Machine.execIntentWrite addr data lanes s
  | .ringConsumer data lanes => Sys2Proof.Machine.execRingConsumer data lanes s
  | .controllerWrite addr data lanes => Sys2Proof.Machine.execControllerWrite addr data lanes s
  | .controllerRead addr lanes => Sys2Proof.Machine.execControllerRead addr lanes s
  | .queueHeadGrant => Sys2Proof.Machine.execQueueHeadGrant s
  | .refreshGrant => Sys2Proof.Machine.execRefreshGrant s
  | .boostGrant => Sys2Proof.Machine.execBoostGrant s
  | .reportWordGrant => Sys2Proof.Machine.execReportWordGrant s
  | .ringWordGrant => Sys2Proof.Machine.execRingWordGrant s
  | .sweepReadGrant => Sys2Proof.Machine.execSweepReadGrant s
  | .writeComplete => Sys2Proof.Machine.execWriteComplete s
  | .ringWordDone => Sys2Proof.Machine.execRingWordDone s
  | .sweepReadDone => Sys2Proof.Machine.execSweepReadDone s
  | .readReturn => Sys2Proof.Machine.execReadReturn s
  | .eventPending => Sys2Proof.Machine.execEventPending s

end Sys2Proof.Machine
end

