-- ==== Sys2Proof/Safety.lean ====
section
/-! DEFINITION. The words that statements about the part use: what a command reports, when it is taken, what a hold makes of an axis, how a
run of pulses goes, and the conditions that a state of the part meets before and after every step. -/

namespace Sys2Proof.Machine

/-! ### What a change reports (R162, R163) -/

/-- From `s` to `t` exactly the events `es` are raised. -/
def Raises (s t : State) (es : List Event) : Prop := ∀ e, t.isPending e = (s.isPending e || decide (e ∈ es))

/-- From `s` to `t` exactly the events `es` are raised and exactly the words `ws` are marked dirty, besides EVENT_PENDING, which is marked
where the pending set changed. -/
def Reports (s t : State) (es : List Event) (ws : List ReportWord) : Prop :=
  Raises s t es ∧
    ∀ w, t.isDirty w = (s.isDirty w || decide (w ∈ ws) || (decide (w = .eventPending) && es.any fun e => !s.isPending e))

/-- From `s` to `t` the words `must` are marked dirty, and no word outside `must` and `may` changes its mark. -/
def MarksWithin (s t : State) (must may : List ReportWord) : Prop :=
  (∀ w ∈ must, t.isDirty w = true) ∧ ∀ w, w ∉ must → w ∉ may → t.isDirty w = s.isDirty w

/-- What the end of a burst by an abort leaves from `s` to `t`, where `cut` says whether the burst in flight is aborted: IDLE, its x 0,
ABORTED with its axis and EXCITE_DONE; where none is aborted, the burst record, the result and its marks as they were (R128, R129). -/
def BurstCut (s t : State) (cut : Prop) : Prop :=
  (cut → t.burst.state = .idle ∧ t.burst.x = 0 ∧ t.exciteResult = .aborted s.burst.axis ∧ t.isPending .exciteDone = true ∧
    t.isDirty .exciteResult = true) ∧
  (¬ cut → t.burst = s.burst ∧ t.exciteResult = s.exciteResult ∧ t.isPending .exciteDone = s.isPending .exciteDone ∧
    t.isDirty .exciteResult = s.isDirty .exciteResult)

/-- What the abort of a ZERO capture by a change of the selected source leaves from `s` to `t`, where `cut` says whether one in flight is
aborted: IDLE, SOURCE with its source and ZERO_DONE; where none is, the capture, the result and its marks as they were (R36, R38). -/
def CaptureCut (s t : State) (cut : Prop) : Prop :=
  (cut → t.capture.state = .idle ∧ t.zeroResult = .source s.capture.source ∧ t.isPending .zeroDone = true ∧
    t.isDirty .zeroResult = true) ∧
  (¬ cut → t.capture = s.capture ∧ t.zeroResult = s.zeroResult ∧ t.isPending .zeroDone = s.isPending .zeroDone ∧
    t.isDirty .zeroResult = s.isDirty .zeroResult)

/-- The words that a change of fault flags may mark: EVENT_PENDING, ACTIVE_FAULTS and HEADLINE (R140, R141). -/
def faultWords : List ReportWord := [.eventPending, .activeFaults, .headline]

/-- The three device classes' flags are as they were. -/
def SameDeviceFlags (s t : State) : Prop :=
  t.faults.sourceLost = s.faults.sourceLost ∧ t.faults.sourceFallback = s.faults.sourceFallback ∧
    t.faults.frameLost = s.faults.frameLost

/-! ### When the C-port takes a transaction (R99, R100) -/

/-- The C-port accepts the next transaction at once: it is open, and nothing is stretched before it. -/
def CportTakes (s : State) : Prop := s.cportOpen = true ∧ s.cport.offered = []

/-- A command meets none of the common refusals of NOT_READY and NO_PROFILE, and its write is accepted at once. -/
def CommandReady (s : State) : Prop := CportTakes s ∧ s.profile.sweep = .done ∧ s.profileActive = true

/-- The C-port after the acceptance of a write that is queued unbound or bound. -/
def queued (s : State) (addr : Addr) (data : Word) (lanes : Lanes) (bind : Option AxisId) : CPort :=
  { s.cport with queue := s.cport.queue ++ [{ txn := .write addr data lanes, bind := bind }] }

/-- The C-port after the acceptance of a command's write to COMMAND. -/
def commandQueued (s : State) (code operand : Byte) : CPort :=
  queued s (addrAt s.strapPage 0) (ofBytes code operand) .both none

/-- The Profile Unit after a command: the shadow's COMMAND word as written and touched, and the result (R88, R161). -/
def commandShown (s : State) (code operand : Byte) (r : CmdResult) : ProfileUnit :=
  { s.profile with shadow := s.profile.shadow.setWord 0 (ofBytes code operand), touched := s.profile.touched.set 0 true,
                   cmdCode := code, cmdResult := r }

/-- The state after a command that its owner refuses, or that changes nothing but its own result: all else stands. -/
def RefusedWith (s t : State) (code operand : Byte) (r : CmdResult) : Prop :=
  t = { s with cport := commandQueued s code operand, profile := commandShown s code operand r, report := t.report } ∧
    Reports s t [.commandDone] [.commandResult]

/-- The operand byte that names an axis. -/
def axisByte (a : AxisId) : Byte := BitVec.ofNat 8 a.val

/-! ### Axes -/

/-- One axis's record replaced. -/
def withAxis (s : State) (a : AxisId) (ax : Axis) : Vector Axis 4 := s.axes.set a.val ax a.isLt

/-- A burst in flight runs on a STABILISING axis while a source is selected, and while none is in flight the current x is 0 (R126 to R128,
R130). -/
def BurstOnStabilising (s : State) : Prop :=
  (s.burst.state = .running → (s.axis s.burst.axis).state = .stabilising ∧ s.selected ≠ none) ∧ (s.burst.state = .idle → s.burst.x = 0)

/-- A burst is in flight on the axis `a`. -/
def burstOn (s : State) (a : AxisId) : Bool := decide (s.burst.state = .running ∧ s.burst.axis = a)

/-- From `s` to `t` the state of the axis of a burst in flight has changed. -/
def BurstAxisMoved (s t : State) : Prop :=
  s.burst.state = .running ∧ (t.axis s.burst.axis).state ≠ (s.axis s.burst.axis).state

/-- What a hold with a cause makes of an axis's record (R70, R71): OFF ignores it; HELD adds the cause; STABILISING and COASTING become HELD,
their refresh cancelled, their timers stopped, LIMIT_DWELL and REFRESH_LATE lapsed, their output, correction, flags and θ kept. -/
def heldBy (c : Cause) (ax : Axis) : Axis :=
  match ax.state with
  | .off => ax
  | .held => { ax with causes := ax.causes.add c }
  | .stabilising | .coasting =>
    { ax with state := .held, causes := ax.causes.add c, refreshPending := false, deadlineTimer := none, silenceTimer := none,
              dwellTimer := none, limitDwellActive := false, lateActive := false }

/-- What the judgment of the source classes makes of an axis when the selection stands at `new` under a profile: HOLD_ALL for the class that
becomes active holds it (R132, R139). -/
def sourceHolds (s : State) (p : Page) (new : Option Source) (ax : Axis) : Axis :=
  if new = none ∧ s.faults.sourceLost = false ∧ p.policy .sourceLost = .holdAll then heldBy .sourceLost ax
  else if new = some (otherSource p.primary) ∧ s.faults.sourceFallback = false ∧ p.policy .sourceFallback = .holdAll then
    heldBy .sourceFallback ax
  else ax

/-- The timer that a start of the silence window gives (R66). -/
def silenceStart (p : Page) (a : AxisId) : Timer := if p.silenceMs a = 0 then none else some (p.silenceMs a)

/-- The dwell measure's timer and flag after a composition with its LIMIT (R134). -/
def dwellAfter (limit : Bool) (dwellMs : Nat) (ax : Axis) : Timer × Bool :=
  if limit then (if ax.dwellTimer = none ∧ ax.limitDwellActive = false then some dwellMs else ax.dwellTimer, ax.limitDwellActive)
  else (none, false)

/-- An axis's record after one composition with excitation `x` under a profile and a severity state (R40 to R44, R134). -/
def composedAxis (p : Page) (a : AxisId) (sev : SeverityState) (x : Int) (ax : Axis) : Axis :=
  let c := saturate (-(roundHalfAway (ax.theta * p.gain a) (2 ^ 24)))
  let v := ax.intent.toInt + c + x
  let l := p.stepLimit a sev
  let candidate := ax.output + (if v - ax.output > l then l else if v - ax.output < -l then -l else v - ax.output)
  let limit := decide (candidate > p.softHi a ∨ candidate < p.softLo a)
  { ax with
    correction := c
    output := if candidate > p.softHi a then p.softHi a else if candidate < p.softLo a then p.softLo a else candidate
    rate := decide (v - ax.output > l ∨ v - ax.output < -l)
    limit := limit
    dwellTimer := (dwellAfter limit (p.dwellMs a) ax).1
    limitDwellActive := (dwellAfter limit (p.dwellMs a) ax).2 }

/-- An axis's record after a refresh is marked (R54). -/
def refreshMarked (ax : Axis) : Axis :=
  if ax.refreshPending then ax else { ax with refreshPending := true, deadlineTimer := some 2 }

/-- An axis's record after its refresh is granted, satisfied or cancelled (R54 to R57, R136). -/
def refreshCleared (ax : Axis) : Axis := { ax with refreshPending := false, deadlineTimer := none, lateActive := false }

/-! ### Frames and arrivals (R5, R8, R17) -/

/-- A complete frame stands in the frame buffer of a line, and no reset stands. -/
def FrameReady (s : State) (line : Source) (f : List Byte) : Prop :=
  s.resetHeld = false ∧ (s.link line).assembly = .collecting f ∧ f.length = 9

/-- A frame that passes its check and reports no failed self-test. -/
def Acceptable (f : List Byte) : Prop := frameCheck f = true ∧ frameSelfTestFail f = false

/-- The record of a source after the acceptance of a frame (R8, R9, R11). -/
def acceptedRecord (l : Link) (f : List Byte) : Link :=
  { assembly := .hunting, state := .live, lastSeq := frameByte f 1, staleTimer := some 5,
    satSeen := l.satSeen || (frameByte f 8).getLsbD 0 }

/-- A frame whose acceptance is an arrival from the selected source, LIVE already. -/
def ArrivalReady (s : State) (line : Source) (f : List Byte) : Prop :=
  FrameReady s line f ∧ Acceptable f ∧ (s.link line).state = .live ∧ s.selected = some line ∧ s.profileActive = true

/-- The disturbance rate of an axis at an arrival: bias removal and mixing (R21, R22). -/
def disturbance (s : State) (line : Source) (r : Channels) (a : AxisId) : Int :=
  let b := s.bias.get line
  let m := s.page.mixing a
  saturate (roundHalfAway (m.x * saturate (r.x - b.x) + m.y * saturate (r.y - b.y) + m.z * saturate (r.z - b.z)) 512)

/-- The magnitude and sign of the leak of an angle (R24). -/
def leakOf (k : Nat) (theta : Int) : Int :=
  if theta = 0 then 0 else if 0 < theta then ((max 1 (theta.natAbs / 2 ^ k) : Nat) : Int) else -((max 1 (theta.natAbs / 2 ^ k) : Nat) : Int)

/-- θ after an arrival with sequence gap `gap` (R23, R25, R26): an enabled, active axis takes its steps, another none. -/
def integratedTheta (s : State) (a : AxisId) (d : Int) (gap : Nat) : Int :=
  let ax := s.axis a
  if s.page.enabled a = true ∧ ax.state ≠ .off then
    (fun theta => theta + d - leakOf (s.page.leakShift a s.severity.state) theta)^[min (gap + 1) 4] ax.theta
  else ax.theta

/-- The gap of an arrival of a LIVE source (R10). -/
def gapOf (l : Link) (f : List Byte) : Nat := ((frameByte f 1).toNat + 256 - l.lastSeq.toNat + 255) % 256

/-- An axis's record after an arrival is counted toward its next refresh (R53, R54). -/
def arrivalCounted (divider : Nat) (ax : Axis) : Axis :=
  if ax.refreshCount + 1 = divider then refreshMarked { ax with refreshCount := 0 } else { ax with refreshCount := ax.refreshCount + 1 }

/-- An axis's record after an arrival with disturbance rate `d` and sequence gap `gap` (R25, R47, R48, R53). -/
def arrivedAxis (s : State) (a : AxisId) (d : Int) (gap : Nat) : Axis :=
  let ax := { s.axis a with theta := integratedTheta s a d gap }
  match ax.state with
  | .stabilising | .coasting =>
    arrivalCounted (s.page.divider a) (composedAxis s.page a s.severity.state (s.excitation a) ax)
  | .off | .held => ax

/-- The Severity Monitor after an arrival, rough or smooth (R110 to R113, R116). -/
def severityArrived (p : Page) (rough : Bool) (v : Severity) : Severity :=
  let level := if rough then (if 255 < v.level + 2 then 255 else v.level + 2) else v.level - 1
  let w := { v with level := level }
  match v.state with
  | .calm =>
    if level < p.entryLevel then w
    else
      let b := { w with boostHeld := if p.boostEnable then some p.boostActive else v.boostHeld }
      if p.settleMs ≠ 0 then { b with state := .boosting, settleTimer := some p.settleMs }
      else if level ≠ 0 then { b with state := .rough, settleTimer := none }
      else { b with state := .easing, settleTimer := none, exitHoldTimer := some p.exitHoldMs }
  | .boosting => w
  | .rough => if level = 0 then { w with state := .easing, exitHoldTimer := some p.exitHoldMs } else w
  | .easing => if level = 0 then w else { w with state := .rough, exitHoldTimer := none }

/-- The noise state after one step: the exclusive-or of the two most significant bits shifted in as the least significant (R125). -/
def noiseAfter (n : BitVec 15) : BitVec 15 := BitVec.ofNat 15 (2 * n.toNat + (if n.getLsbD 14 ≠ n.getLsbD 13 then 1 else 0))

/-- A burst after an advance that does not complete it (R123 to R125). -/
def burstAdvanced (b : Burst) : Burst :=
  let c := { b with remaining := b.remaining - 1, phase := b.phase + 1 }
  if b.phase + 1 = b.halfPeriod then
    match b.waveform with
    | .square => { c with phase := 0, x := -b.x }
    | .noise =>
      { c with phase := 0, noise := noiseAfter b.noise,
               x := if (noiseAfter b.noise).getLsbD 0 then (b.amplitude : Int) else -(b.amplitude : Int) }
  else c

/-! ### Timers (R1) -/

/-- The timers of the part. -/
inductive TimerName where
  | stale (source : Source)
  | silence (axis : AxisId)
  | dwell (axis : AxisId)
  | deadline (axis : AxisId)
  | settle
  | exitHold
  | blink
  | frameLost
deriving DecidableEq, Repr

/-- A timer of a state. -/
def State.timer (s : State) : TimerName → Timer
  | .stale src => (s.link src).staleTimer
  | .silence a => (s.axis a).silenceTimer
  | .dwell a => (s.axis a).dwellTimer
  | .deadline a => (s.axis a).deadlineTimer
  | .settle => s.severity.settleTimer
  | .exitHold => s.severity.exitHoldTimer
  | .blink => s.faults.blinkTimer
  | .frameLost => s.timecode.frameLostTimer

/-- The expiry of a timer, as a command. -/
def TimerName.expiry : TimerName → Instr
  | .stale src => .staleExpiry src
  | .silence a => .silenceExpiry a
  | .dwell a => .dwellExpiry a
  | .deadline a => .refreshDeadlineExpiry a
  | .settle => .settleExpiry
  | .exitHold => .exitHoldExpiry
  | .blink => .statBlinkToggle
  | .frameLost => .frameLostExpiry

/-- The state after a number of pulses of the Time Base, each run by `exec`. -/
def afterPulses : Nat → State → State
  | 0, s => s
  | n + 1, s =>
    match exec .timeBasePulse s with
    | .next t => afterPulses n t
    | .fault _ => s
    | .refused _ => s

/-! ### Resets (R19, R39, R59, R79, R98, R108, R120, R130, R144, R155, R156, R162, R163) -/

/-- What both resets leave, in every block but the bias table, the timecode, the strap page and the RAM. -/
def AtReset (t : State) : Prop :=
  t.resetHeld = true ∧
  (∀ src, t.link src = { assembly := .hunting, state := .absent, lastSeq := 0, staleTimer := none, satSeen := false }) ∧
  t.selected = none ∧ t.capture.state = .idle ∧ t.capture.sums = ⟨0, 0, 0⟩ ∧ t.capture.count = 0 ∧ t.zeroResult = .none ∧
  (∀ a, (t.axis a).state = .off ∧ (∀ c, (t.axis a).causes.has c = false) ∧ (t.axis a).theta = 0 ∧ (t.axis a).intent = 0 ∧
    (t.axis a).intentValid = false ∧ (t.axis a).outAddr = none ∧ (t.axis a).output = 0 ∧ (t.axis a).correction = 0 ∧
    (t.axis a).rate = false ∧ (t.axis a).limit = false ∧ (t.axis a).refreshCount = 0 ∧ (t.axis a).refreshPending = false ∧
    (t.axis a).deadlineTimer = none ∧ (t.axis a).silenceTimer = none ∧ (t.axis a).dwellTimer = none ∧
    (t.axis a).silentActive = false ∧ (t.axis a).limitDwellActive = false ∧ (t.axis a).lateActive = false) ∧
  t.cport.queue = [] ∧ t.cport.offered = [] ∧ t.mport.busy = none ∧ t.mport.starvation = 0 ∧
  t.severity = { level := 0, state := .calm, settleTimer := none, exitHoldTimer := none, boostHeld := none } ∧
  t.burst.state = .idle ∧ t.burst.x = 0 ∧ t.burst.remaining = 0 ∧ t.burst.phase = 0 ∧ t.burst.noise = 0x7FFF ∧ t.exciteResult = .none ∧
  t.faults = { sourceLost := false, sourceFallback := false, frameLost := false, headline := none, pattern := .dark, lampLit := false,
               blinkTimer := none } ∧
  t.timecode.pendingSet = none ∧ t.timecode.frameLostTimer = none ∧ t.timecode.frameLost = false ∧
  t.ring.producer = 0 ∧ t.ring.consumer = 0 ∧ t.ring.staged = none ∧ t.ring.position = 0 ∧ t.ring.granted = 0 ∧
  (∀ w, t.profile.shadow.word w = 0) ∧ (∀ i : Fin 256, t.profile.touched[i.val] = false) ∧ t.profile.active = none ∧
  t.profile.sweep = .sweeping 0 ∧ t.reportWord .commandResult = 0 ∧ t.reportWord .applyResult = 0 ∧
  (∀ e, t.isPending e = false) ∧ ∀ w, t.isDirty w = true

/-- What a reset leaves of the RAM: a write in progress may have landed or not, and nothing else changes (R108). -/
def CutWriteOnly (s t : State) : Prop :=
  match s.mport.busy with
  | none => t.ram = s.ram
  | some w => t.ram = s.ram ∨ (w.isWrite = true ∧ t.ram = s.ram.writeWord w.addr w.data w.lanes)

/-! ### The arbiter's requests (R103) -/

/-- A refresh waits. -/
def refreshWaits (s : State) : Bool := anyAxis fun a => (s.axis a).refreshPending
/-- A report word waits. -/
def reportWaits (s : State) : Bool := ReportWord.all.any s.isDirty
/-- A staged record word waits: the staging buffer holds words not yet granted. -/
def ringWaits (s : State) : Bool := decide (s.ring.staged ≠ none ∧ s.ring.granted < 12)
/-- A sweep read waits. -/
def sweepWaits (s : State) : Bool := decide (s.profile.sweep ≠ .done)
/-- An own request waits. -/
def ownWaits (s : State) : Bool :=
  refreshWaits s || s.severity.boostHeld.isSome || reportWaits s || ringWaits s || sweepWaits s

/-- The M-port is free, no reset stands, and the arbiter's turn is an own request's: no queue head waits, or four heads have gone before
(R102, R104). -/
def OwnTurn (s : State) : Prop :=
  s.resetHeld = false ∧ s.mport.busy = none ∧ (s.cport.queue = [] ∨ s.mport.starvation = 4)

/-- The M-port after the grant of an own request. -/
def ownGranted (s : State) (t : MTxn) : MPort := { s.mport with busy := some t, starvation := 0 }

/-! ### What stretched transactions come to (R99, R100) -/

/-- A transaction of the arm controller as a command. -/
def BusTxn.command : BusTxn → Instr
  | .write addr data lanes => .controllerWrite addr data lanes
  | .read addr lanes => .controllerRead addr lanes

/-- The outcome of transactions offered one after another. -/
def offeredInTurn : List BusTxn → State → Host.Outcome State Fault Refusal
  | [], s => .next s
  | t :: rest, s =>
    match exec t.command s with
    | .next u => offeredInTurn rest u
    | .fault e => .fault e
    | .refused e => .refused e

/-! ### The fields of a profile page as 12.1 places them, and the tests of an apply (R85, R159, R160) -/

/-- A word of a page as a number. -/
def wordAt (p : Page) (o : Nat) : Nat := (p.word (BitVec.ofNat 8 o)).toNat

/-- A word of a page as a signed number. -/
def signedAt (p : Page) (o : Nat) : Int := (p.word (BitVec.ofNat 8 o)).toInt

/-- Word `k` of window `n`. -/
def entryWord (p : Page) (n : Fin 8) (k : Nat) : Nat := wordAt p (0x20 + 3 * n.val + k)

/-- Window `n` is valid. -/
def entryValid (p : Page) (n : Fin 8) : Prop := entryWord p n 0 / 0x8000 = 1

/-- Window `n` is an INTENT window. -/
def entryIntent (p : Page) (n : Fin 8) : Prop := entryWord p n 0 / 0x4000 % 2 = 0

/-- The axis window `n` is bound to. -/
def entryAxis (p : Page) (n : Fin 8) : Nat := entryWord p n 0 / 0x1000 % 4

/-- The base of window `n`. -/
def entryBase (p : Page) (n : Fin 8) : Nat := entryWord p n 0 % 4 * 0x10000 + entryWord p n 1

/-- The mask of window `n`. -/
def entryMask (p : Page) (n : Fin 8) : Nat := entryWord p n 0 / 4 % 4 * 0x10000 + entryWord p n 2

/-- Window `n` matches an address: it is valid, and the two agree on every bit of its mask (R84). -/
def entryMatches (p : Page) (n : Fin 8) (addr : Addr) : Prop :=
  entryValid p n ∧ ∀ i < 18, (entryMask p n).testBit i = true → addr.getLsbD i = (entryBase p n).testBit i

/-- Two tables differ in entry `n` (R83). -/
def entryDiffers (old new : Page) (n : Fin 8) : Prop :=
  ¬ (entryValid old n ↔ entryValid new n) ∨
    (entryValid old n ∧ entryValid new n ∧
      (¬ (entryIntent old n ↔ entryIntent new n) ∨ entryAxis old n ≠ entryAxis new n ∨ entryBase old n ≠ entryBase new n ∨
        entryMask old n ≠ entryMask new n))

/-- An address lies in the ring region that a page gives: ring enable set, N × 12 addresses from RING_BASE's page, wrapping (R82). -/
def ringRegion (p : Page) (addr : Addr) : Prop :=
  wordAt p 0x02 / 16 % 2 = 1 ∧ ∃ i < 12 * wordAt p 0x05, addr.toNat = (256 * wordAt p 0x04 + i) % 262144

/-- An address lies in the profile page or the report page of a strap page (R81). -/
def ownPages (strap : PageNo) (addr : Addr) : Prop :=
  addr.toNat / 256 = strap.toNat ∨ addr.toNat / 256 = (strap.toNat + 1) % 1024

/-- A page enables the boost and names an address as its boost address. -/
def boostsAt (p : Page) (addr : Addr) : Prop :=
  wordAt p 0x09 / 0x8000 = 1 ∧ addr.toNat = wordAt p 0x09 % 4 * 0x10000 + wordAt p 0x0A

/-- Window `n` is a valid INTENT window at fault: it matches an address that a valid INTENT window of another axis, or a lower-numbered valid
GUARD window of another axis, matches, or one of the two pages, of the ring region, or the boost address (R85). -/
def entryAtFault (p : Page) (strap : PageNo) (n : Fin 8) : Prop :=
  entryIntent p n ∧ ∃ addr, entryMatches p n addr ∧
    ((∃ m, entryMatches p m addr ∧ entryAxis p m ≠ entryAxis p n ∧ (entryIntent p m ∨ m < n)) ∨
      ownPages strap addr ∨ ringRegion p addr ∨ boostsAt p addr)

/-- A range test charged to a word below the window table fails (R82, R117, R159). -/
def deviceFails (p : Page) (strap : PageNo) (o : Nat) : Prop :=
  (o = 0x02 ∧ wordAt p o / 4 % 4 = 3) ∨
  (o = 0x04 ∧ (1023 < wordAt p o ∨ ∃ addr, ringRegion p addr ∧ ownPages strap addr)) ∨
  (o = 0x05 ∧ (wordAt p o = 1 ∨ 80 < wordAt p o)) ∨
  (o = 0x06 ∧ 32767 < wordAt p o) ∨
  (o = 0x07 ∧ wordAt p o % 256 = 0) ∨
  (o = 0x08 ∧ wordAt p o % 256 = 0) ∨
  (o = 0x09 ∧ ∃ addr, boostsAt p addr ∧ (ownPages strap addr ∨ ringRegion p addr)) ∨
  (o = 0x10 ∧ 32767 < wordAt p o)

/-- A range test charged to a word of the block of axis `a`, enabled in the page, fails (R159, R165). Of lo and hi it is lo's word that the test
is charged to: the model's reading (assumption log 13). -/
def axisFails (p : Page) (a : AxisId) (o : Nat) : Prop :=
  let b := 0x40 + 0x20 * a.val
  wordAt p b % 2 = 1 ∧
    (((o = b + 2 ∨ o = b + 3 ∨ o = b + 4) ∧ (signedAt p o < -1024 ∨ 1023 < signedAt p o)) ∨
     (o = b + 5 ∧ (wordAt p o / 256 < 6 ∨ 16 < wordAt p o / 256 ∨ wordAt p o % 256 < 6 ∨ 16 < wordAt p o % 256)) ∨
     ((o = b + 6 ∨ o = b + 7) ∧ signedAt p o < 1) ∨
     (o = b + 8 ∧ signedAt p (b + 9) ≤ signedAt p (b + 8)) ∨
     (o = b + 11 ∧ wordAt p o % 256 = 0) ∨
     (o = b + 12 ∧ (wordAt p o % 256 < 1 ∨ 16 < wordAt p o % 256)))

/-- A test of step 2 of R159 that is charged to offset `o` fails. -/
def failsAt (p : Page) (strap : PageNo) (o : Nat) : Prop :=
  deviceFails p strap o ∨ (∃ n : Fin 8, o = 0x20 + 3 * n.val ∧ entryAtFault p strap n) ∨ ∃ a, axisFails p a o

/-- A structural field differs: an axis enable, lo or hi of an axis the new page enables, a window entry, RING_BASE, RING_LENGTH, the boost
enable, the boost address (R160). -/
def structureDiffers (old new : Page) : Prop :=
  (∃ a : AxisId, let b := 0x40 + 0x20 * a.val
    wordAt old b % 2 ≠ wordAt new b % 2 ∨
      (wordAt new b % 2 = 1 ∧ (wordAt old (b + 8) ≠ wordAt new (b + 8) ∨ wordAt old (b + 9) ≠ wordAt new (b + 9)))) ∨
  (∃ n, entryDiffers old new n) ∨ wordAt old 0x04 ≠ wordAt new 0x04 ∨ wordAt old 0x05 ≠ wordAt new 0x05 ∨
  wordAt old 0x09 / 0x8000 ≠ wordAt new 0x09 / 0x8000 ∨ wordAt old 0x09 % 4 ≠ wordAt new 0x09 % 4 ∨
  wordAt old 0x0A ≠ wordAt new 0x0A

/-! ### An accepted apply (R160) -/

/-- The window tables of the profile before and of the new one differ; with no profile before, every value counts as changed (R83, R160). -/
def tableNew (old : Option Page) (p : Page) : Prop := ∀ q, old = some q → tablesDiffer q p = true

/-- The ring settings of the profile before and of the new one differ (R154). -/
def ringNew (old : Option Page) (p : Page) : Prop :=
  ∀ q, old = some q → ¬ (q.ringBase = p.ringBase ∧ q.ringLength = p.ringLength ∧ q.ringEnable = p.ringEnable)

/-- The boost settings of the profile before and of the new one differ (R117). -/
def boostNew (old : Option Page) (p : Page) : Prop :=
  ∀ q, old = some q → ¬ (q.boostEnable = p.boostEnable ∧ q.boostAddr = p.boostAddr ∧ q.boostNormal = p.boostNormal ∧
    q.boostActive = p.boostActive)

/-- The source that a profile would select (R12, R13). -/
def sourceFor (s : State) (p : Page) : Option Source :=
  if (s.link p.primary).state = .live then some p.primary
  else if p.fallback = true ∧ (s.link (otherSource p.primary)).state = .live then some (otherSource p.primary) else none

/-- A queue entry after a profile with another window table is taken up, its classes as they are in `t`: a write outside the part's pages and
the ring region has the binding that the new table gives its address (R97). -/
def rebound (t : State) (e : QEntry) : QEntry :=
  match e.txn with
  | .read _ _ => e
  | .write addr _ _ =>
    match t.classify addr with
    | .profileWord _ | .reportWord _ | .ringWord => e
    | .intent a => { e with bind := some a }
    | .guard _ | .unmatched => { e with bind := none }

/-- An axis's record before the source classes are judged at an accepted apply (R53, R62). -/
def retabled (old : Option Page) (p : Page) (ax ax' : Axis) : Prop :=
  ax' = { ax with refreshCount := 0, intentValid := ax'.intentValid, outAddr := ax'.outAddr } ∧
    (tableNew old p → ax'.intentValid = false ∧ ax'.outAddr = none) ∧
    (¬ tableNew old p → ax'.intentValid = ax.intentValid ∧ ax'.outAddr = ax.outAddr)

/-- What every block does from `s` to `t` as `p` becomes the active profile in place of that of `s` (R13, R53, R62, R97, R117, R128, R132,
R143, R148, R154, R160). -/
def TakenUp (s : State) (p : Page) (t : State) : Prop :=
  let old := s.profile.active
  t.profile.active = some p ∧
  t.selected = (if s.selected = none then sourceFor s p else s.selected) ∧
  t.isPending .sourceSwitch = (s.isPending .sourceSwitch || decide (t.selected ≠ s.selected)) ∧
  CaptureCut s t (s.capture.state = .running ∧ t.selected ≠ s.selected) ∧
  BurstCut s t (BurstAxisMoved s t) ∧
  (∀ a, ∃ ax, retabled old p (s.axis a) ax ∧ t.axis a = sourceHolds s p t.selected ax) ∧
  (tableNew old p → t.cport = { s.cport with queue := s.cport.queue.map (rebound t) }) ∧
  (¬ tableNew old p → t.cport = s.cport) ∧
  t.severity = { s.severity with boostHeld := t.severity.boostHeld } ∧
  (p.boostEnable = false → t.severity.boostHeld = none) ∧
  (p.boostEnable = true → ¬ boostNew old p → t.severity.boostHeld = s.severity.boostHeld) ∧
  (p.boostEnable = true → boostNew old p →
    t.severity.boostHeld = some (if s.severity.state = .calm then p.boostNormal else p.boostActive)) ∧
  (p.frameRate = some s.timecode.rate → t.timecode = s.timecode) ∧
  (p.frameRate ≠ some s.timecode.rate →
    t.timecode = { s.timecode with rate := t.timecode.rate, valid := false, pendingSet := none } ∧ p.frameRate = some t.timecode.rate ∧
      t.isDirty .timecodeState = true) ∧
  (¬ ringNew old p → t.ring = s.ring ∧ t.mport = s.mport) ∧
  (ringNew old p → t.ring.producer = 0 ∧ t.ring.consumer = 0 ∧ t.ring.staged = none ∧ t.isDirty .ringProducer = true ∧
    t.isDirty .ringConsumer = true ∧
    t.mport = { s.mport with busy := s.mport.busy.map fun w => if w.kind = .ringWord true then { w with kind := .ringWord false } else w }) ∧
  t.faults.sourceLost = decide (t.selected = none) ∧ t.faults.sourceFallback = decide (t.selected = some (otherSource p.primary)) ∧
  t.faults.frameLost = (s.faults.frameLost || (decide (old = none) && s.timecode.frameLost)) ∧
  t.faults.headline = t.firstActive ∧ t.faults.pattern = t.patternFor ∧
  (∀ c ∈ [FaultClass.sourceLost, .sourceFallback, .frameLost], t.classActive c = true → s.classActive c = false →
    t.isPending .faultRaised = true) ∧
  (t.isPending .axisState = true ↔ s.isPending .axisState = true ∨ ∃ a, (t.axis a).state ≠ (s.axis a).state) ∧
  t = { s with selected := t.selected, capture := t.capture, zeroResult := t.zeroResult, axes := t.axes, cport := t.cport,
               mport := t.mport, severity := t.severity, burst := t.burst, exciteResult := t.exciteResult, faults := t.faults,
               timecode := t.timecode, ring := t.ring, profile := t.profile, report := t.report }

/-! ### The report page (12.2, 12.3, R166) -/

/-- The offset of a report word and its content, bit by bit. -/
def ReportLayout (s : State) (w : ReportWord) (offset : Nat) (d : Word) : Prop :=
  let axisBits := fun ax : Axis => [(2, ax.causes.command), (3, ax.causes.sourceLost), (4, ax.causes.sourceFallback),
    (5, ax.causes.controllerSilent), (6, ax.causes.limitDwell), (7, ax.causes.refreshLate), (8, ax.rate), (9, ax.limit),
    (10, ax.silentActive), (11, ax.limitDwellActive), (12, ax.lateActive)]
  let sourceBit := fun src : Source => if src = .b then 256 else 0
  match w with
  | .signature => offset = 0x00 ∧ d = 0x4120
  | .revision => offset = 0x01 ∧ d = 0x0001
  | .eventPending => offset = 0x02 ∧ d.getLsbD 15 = false ∧
    ∀ e i, (e, i) ∈ [(Event.commandDone, 0), (.applyDone, 1), (.sweepDone, 2), (.axisState, 3), (.faultRaised, 4), (.faultCleared, 5),
      (.sourceSwitch, 6), (.zeroDone, 7), (.exciteDone, 8), (.severityEnter, 9), (.severityLeave, 10), (.tcApplied, 11),
      (.ringRecord, 12), (.ringOverrun, 13), (.strayWrite, 14)] → d.getLsbD i = s.isPending e
  | .commandResult => offset = 0x03 ∧ d.toNat / 256 = s.profile.cmdCode.toNat ∧
    (s.profile.cmdResult, d.toNat % 256) ∈ [(CmdResult.done, 0), (.accepted, 1), (.notReady, 2), (.noProfile, 3), (.badAxis, 4),
      (.unknown, 5), (.disabled, 6), (.wrongState, 7), (.noIntent, 8), (.noSource, 9), (.faultActive, 10), (.busy, 11), (.badParam, 12),
      (.badTime, 13)]
  | .applyResult => offset = 0x04 ∧ d.toNat % 256 = s.profile.applyOffset.toNat ∧
    (s.profile.applyResult, d.toNat / 256) ∈ [(ApplyResult.none, 0), (.applied, 1), (.notReady, 2), (.range, 3), (.priority, 4),
      (.policy, 5), (.structuralBusy, 6)]
  | .profileState => offset = 0x05 ∧ d.toNat < 4 ∧ (d.getLsbD 0 = true ↔ s.profile.active ≠ none) ∧
    (d.getLsbD 1 = true ↔ s.profile.sweep = .done)
  | .sourceState => offset = 0x06 ∧ d.toNat < 64 ∧
    (s.selected, d.toNat / 16) ∈ [(none, 0), (some Source.a, 1), (some .b, 2)] ∧
    ((s.link .a).state, d.toNat % 4) ∈ [(SourceState.absent, 0), (.live, 1), (.stale, 2)] ∧
    ((s.link .b).state, d.toNat / 4 % 4) ∈ [(SourceState.absent, 0), (.live, 1), (.stale, 2)]
  | .severity => offset = 0x07 ∧ d.toNat % 256 = s.severity.level % 256 ∧
    (s.severity.state, d.toNat / 256) ∈ [(SeverityState.calm, 0), (.boosting, 1), (.rough, 2), (.easing, 3)]
  | .activeFaults => offset = 0x08 ∧ d.toNat < 64 ∧
    ∀ c i, (c, i) ∈ [(FaultClass.sourceLost, 0), (.sourceFallback, 1), (.controllerSilent, 2), (.limitDwell, 3), (.refreshLate, 4),
      (.frameLost, 5)] → d.getLsbD i = s.classActive c
  | .headline => offset = 0x09 ∧
    (s.faults.headline, d.toNat) ∈ [(none, 0), (some FaultClass.sourceLost, 1), (some .sourceFallback, 2), (some .controllerSilent, 3),
      (some .limitDwell, 4), (some .refreshLate, 5), (some .frameLost, 6)]
  | .zeroResult => offset = 0x0A ∧ d.toNat = match s.zeroResult with
    | .none => 0
    | .running src => 1 + sourceBit src
    | .done src => 2 + sourceBit src
    | .moving src => 3 + sourceBit src
    | .source src => 4 + sourceBit src
  | .exciteResult => offset = 0x0B ∧ d.toNat = match s.exciteResult with
    | .none => 0
    | .running a => 1 + 256 * a.val
    | .done a => 2 + 256 * a.val
    | .aborted a => 3 + 256 * a.val
  | .timecode0 => offset = 0x0C ∧ d.toNat / 256 = s.timecode.time.hours % 256 ∧ d.toNat % 256 = s.timecode.time.minutes % 256
  | .timecode1 => offset = 0x0D ∧ d.toNat / 256 = s.timecode.time.seconds % 256 ∧ d.toNat % 256 = s.timecode.time.frames % 256
  | .timecodeState => offset = 0x0E ∧ d.toNat < 4 ∧ d.getLsbD 0 = s.timecode.valid ∧
    (d.getLsbD 1 = true ↔ s.timecode.pendingSet ≠ none)
  | .ringProducer => offset = 0x0F ∧ d.toNat = s.ring.producer % 65536
  | .ringConsumer => offset = 0x10 ∧ d.toNat = s.ring.consumer % 65536
  | .biasX src => (src, offset) ∈ [(Source.a, 0x11), (.b, 0x14)] ∧ d = BitVec.ofInt 16 (s.bias.get src).x
  | .biasY src => (src, offset) ∈ [(Source.a, 0x12), (.b, 0x15)] ∧ d = BitVec.ofInt 16 (s.bias.get src).y
  | .biasZ src => (src, offset) ∈ [(Source.a, 0x13), (.b, 0x16)] ∧ d = BitVec.ofInt 16 (s.bias.get src).z
  | .axisStatus a => offset = 0x20 + 8 * a.val ∧ d.toNat < 8192 ∧
    ((s.axis a).state, d.toNat % 4) ∈ [(AxisState.off, 0), (.stabilising, 1), (.coasting, 2), (.held, 3)] ∧
    ∀ i b, (i, b) ∈ axisBits (s.axis a) → d.getLsbD i = b
  | .intent a => offset = 0x21 + 8 * a.val ∧ d = (s.axis a).intent
  | .output a => offset = 0x22 + 8 * a.val ∧ d = BitVec.ofInt 16 (s.axis a).output
  | .correction a => offset = 0x23 + 8 * a.val ∧ d = BitVec.ofInt 16 (s.axis a).correction

/-! ### Conditions that every step keeps -/

/-- The timecode is in range while it is VALID, and so is a pending set (R145, R146). -/
def TimecodeInRange (s : State) : Prop :=
  (s.timecode.valid = true → s.timecode.time.inRange s.timecode.rate.perSecond = true) ∧
    ∀ p, s.timecode.pendingSet = some p → p.inRange s.timecode.rate.perSecond = true

/-- The controller queue holds at most 12 entries, a read only as its newest, and the starvation count runs from 0 to 4 (R100, R101, R104). -/
def QueueInBounds (s : State) : Prop :=
  s.cport.queue.length ≤ 12 ∧ (∀ e ∈ s.cport.queue.dropLast, e.isRead = false) ∧ s.mport.starvation ≤ 4

/-- An axis is HELD exactly when its cause set is not empty (R69). -/
def HeldIffCaused (s : State) : Prop := ∀ a, (s.axis a).state = .held ↔ (s.axis a).causes ≠ .empty

/-- The bound of every disturbance angle (R28). -/
def thetaBound : Int := 2147418112

/-- Every angle within its bound, and the leak shifts of the enabled axes from 6 to 16. -/
def ThetaBounded (s : State) : Prop :=
  (∀ a, -thetaBound ≤ (s.axis a).theta ∧ (s.axis a).theta ≤ thetaBound) ∧
    ∀ a, s.page.enabled a = true →
      (6 ≤ s.page.kCalm a ∧ s.page.kCalm a ≤ 16) ∧ (6 ≤ s.page.kRough a ∧ s.page.kRough a ≤ 16)

/-- Every active axis is enabled in an active profile, and its output lies within its soft limits; an enabled axis's limits are in order and
its step limits are positive (R43, R45, R159). -/
def OutputsInLimits (s : State) : Prop :=
  (∀ a, (s.axis a).state ≠ .off →
    s.profileActive = true ∧ s.page.enabled a = true ∧ s.page.softLo a ≤ (s.axis a).output ∧ (s.axis a).output ≤ s.page.softHi a) ∧
  ∀ a, s.page.enabled a = true → s.page.softLo a < s.page.softHi a ∧ 1 ≤ s.page.stepCalm a ∧ 1 ≤ s.page.stepRough a

/-- A source is selected only while it is LIVE and the profile is ACTIVE; with none selected, no source that the profile would take is LIVE
(R12 to R14). -/
def SelectionInOrder (s : State) : Prop :=
  (∀ src, s.selected = some src → (s.link src).state = .live ∧ s.profileActive = true) ∧
    (s.profileActive = true → s.selected = none →
      (s.link s.page.primary).state ≠ .live ∧ (s.page.fallback = true → (s.link (otherSource s.page.primary)).state ≠ .live))

/-- The source classes stand as the selection gives them, and while the profile is EMPTY nothing is active (R131, R132). -/
def SourceClassesInOrder (s : State) : Prop :=
  if s.profileActive = true then
    s.faults.sourceLost = decide (s.selected = none) ∧
      s.faults.sourceFallback = decide (s.selected = some (otherSource s.page.primary))
  else ∀ c ∈ FaultClass.all, s.classActive c = false

/-- The headline is the first active class of the priority list, and the STAT pattern is the headline's (R141, R142). -/
def HeadlineInOrder (s : State) : Prop :=
  s.faults.headline = s.firstActive ∧ s.faults.pattern = s.patternFor

/-- An active profile is one that passes the range, priority and policy tests, and while a reset stands there is none and the M-port is
idle (R108, R156, R159). -/
def ProfileTested (s : State) : Prop :=
  (s.resetHeld = true → s.profile.active = none ∧ s.mport.busy = none) ∧
    ∀ p, s.profile.active = some p → p.rangeFault s.strapPage = none ∧ p.priorityOk = true ∧ p.policyOk = true

/-- What is stretched finds the C-port closed (R99, R100). -/
def StretchedInOrder (s : State) : Prop := s.cport.offered ≠ [] → s.cportOpen = false

/-- A ZERO capture runs on the selected source, below its 1,024th arrival, and its result shows RUNNING exactly then (R33 to R38). -/
def CaptureInOrder (s : State) : Prop :=
  (s.capture.state = .idle → ∀ src, s.zeroResult ≠ .running src) ∧
    (s.capture.state = .running →
      s.selected = some s.capture.source ∧ s.capture.count < 1024 ∧ s.zeroResult = .running s.capture.source)

/-- The producer and consumer indices of an enabled ring lie below N; a staged record is of the slot p, and publishing it cannot make p equal
to q (R150 to R153). -/
def RingInOrder (s : State) : Prop :=
  s.ringEnabled = true →
    s.ring.producer < s.ringN ∧ s.ring.consumer < s.ringN ∧
      (s.ring.staged ≠ none → s.ring.slot = s.ring.producer ∧ s.ring.position < 12 ∧ s.nextProducer ≠ s.ring.consumer)

/-- The M-port carries a word of the record that is staged. -/
def ringWordBusy (s : State) : Bool := s.mport.busy.any fun w => decide (w.kind = .ringWord true)

/-- Of a staged record fewer than twelve words are written, and one more is granted than written exactly while one is in progress; a word of a
staged record is in progress only while a record is staged (R103, R152, R154). -/
def StagingInOrder (s : State) : Prop :=
  (s.ring.staged = none → ringWordBusy s = false) ∧
    (s.ring.staged ≠ none →
      s.ring.position < 12 ∧ s.ring.granted = s.ring.position + if ringWordBusy s = true then 1 else 0)

/-- Only report words that the part keeps are dirty (R162, R166). -/
def DirtyInOrder (s : State) : Prop := ∀ i : Fin 64, s.report.dirty[i.val] = true → reportsOffset i.val = true

/-- A window of the active table that is INTENT, bound to the axis, and matches the address. -/
def IntentCovers (s : State) (a : AxisId) (addr : Addr) : Prop :=
  ∃ u ∈ s.table, u.kind = .intent ∧ u.axis = a ∧ u.covers addr = true

/-- What keeps every setpoint address to its own axis (R62, R82, R85, R97, R116, R150). -/
structure RoutesInOrder (s : State) : Prop where
  /-- No address has INTENT windows of two axes. -/
  one_axis : ∀ a b addr, IntentCovers s a addr → IntentCovers s b addr → a = b
  /-- No INTENT window reaches a page of the part, the ring region or the boost address. -/
  clear_of_regions : ∀ a addr, IntentCovers s a addr →
    pageOf addr ≠ s.strapPage ∧ pageOf addr ≠ s.reportPage ∧ s.inRing addr = false ∧
      (s.page.boostEnable = true → addr ≠ s.page.boostAddr)
  /-- A queued write is bound to no other axis than the one whose INTENT windows match its address. -/
  bound_to_match : ∀ e ∈ s.cport.queue, ∀ addr data lanes a b,
    e.txn = .write addr data lanes → e.bind = some a → IntentCovers s b addr → b = a
  /-- An output address is matched by an INTENT window of its axis. -/
  address_matched : ∀ a addr, (s.axis a).outAddr = some addr → IntentCovers s a addr
  /-- An axis with intent-valid set, an active axis and an axis with a pending refresh have an output address. -/
  address_set : ∀ a, (s.axis a).intentValid = true ∨ (s.axis a).state ≠ .off ∨ (s.axis a).refreshPending = true →
    (s.axis a).outAddr ≠ none
  /-- Only an active axis has a pending refresh, and an axis is active only while the profile is ACTIVE. -/
  refresh_active : ∀ a, ((s.axis a).refreshPending = true → (s.axis a).state ≠ .off) ∧
    ((s.axis a).state ≠ .off → s.profileActive = true)
  /-- A boost value is held only while the boost is enabled. -/
  boost_enabled : s.severity.boostHeld ≠ none → s.page.boostEnable = true
  /-- A staged record has its slot in an enabled ring, and so has the next. -/
  slot_in_ring : (s.ring.staged ≠ none → s.ringEnabled = true ∧ s.ring.slot < s.ringN) ∧
    (s.ringEnabled = true → s.ring.producer < s.ringN)
  /-- While a reset stands, no profile is active and the M-port is idle. -/
  reset_idle : s.resetHeld = true → s.profile.active = none ∧ s.mport.busy = none

end Sys2Proof.Machine
end

