-- ==== Sys2Proof/Certificates/Slice0/Obligations.lean ====
section
/-! DEFINITION. The statements about the part, for the provers. Each docstring names the rules a statement comes from; where a clause is
the model's own choice it names the row of the assumption log. -/

section Obligations

open Sys2Proof Sys2Proof.Machine

/-! ### The queue of commands, resets, pulses -/

/-- A step runs the command at the front of the queue, with the queue's rest; on an empty queue the part idles (the idle step is the
model's: assumption log 5). -/
def Obligations.StepRunsFrontCommand : Prop :=
  ∀ (c : Instr) (rest : List Instr) (s : State),
    (s.pending = c :: rest → step s = exec c { s with pending := rest }) ∧ (s.pending = [] → step s = .next s)

/-- No command stops the part: the bus has no error or abort signal (R102), and the manual names no condition that stops the part, from
which the model reads that none does (assumption log 19). None touches the queue of waiting commands, which is the model's own (assumption
log 4). -/
def Obligations.EveryCommandAnswersANextState : Prop :=
  ∀ (c : Instr) (s : State), ∃ t, exec c s = .next t ∧ t.pending = s.pending

/-- Both resets put every block at its reset state; the power-on reset clears the biases and the timecode, the line reset keeps them; the
setpoint RAM changes by nothing but a write that the reset ends (R19, R39, R59, R79, R98, R108, R120, R130, R144, R149, R155, R156, R162,
R163). -/
def Obligations.ResetsPutEveryBlockAtItsResetState : Prop :=
  ∀ s : State,
    (∃ t, exec .powerOnReset s = .next t ∧ AtReset t ∧ CutWriteOnly s t ∧ t.bias = ⟨⟨0, 0, 0⟩, ⟨0, 0, 0⟩⟩ ∧
      t.timecode.time = ⟨0, 0, 0, 0⟩ ∧ t.timecode.valid = false ∧ t.timecode.rate = .fps30) ∧
    ∃ t, exec .lineReset s = .next t ∧ AtReset t ∧ CutWriteOnly s t ∧ t.bias = s.bias ∧ t.timecode.time = s.timecode.time ∧
      t.timecode.valid = s.timecode.valid ∧ t.timecode.rate = s.timecode.rate

/-- The end of a reset reads the straps: from then on page P is the profile page and page P + 1, modulo 1,024, the report page; with no
transaction waiting at the C-port nothing else changes (R81). -/
def Obligations.ResetEndReadsTheStraps : Prop :=
  ∀ (s : State) (straps : PageNo), s.resetHeld = true →
    ∃ t, exec (.resetEnd straps) s = .next t ∧ t.strapPage = straps ∧ t.resetHeld = false ∧
      (∀ w, t.classify (addrAt straps w) = .profileWord w ∧
        t.classify (BitVec.ofNat 18 (((straps.toNat + 1) % 1024) * 256 + w.toNat)) = .reportWord w) ∧
      (s.cport.offered = [] → t = { s with resetHeld := false, strapPage := straps })

/-- A pulse of the Time Base counts every running timer once, and changes nothing else; while RESET is held no pulse is given (R1). -/
def Obligations.PulseCountsEveryRunningTimer : Prop :=
  ∀ s : State,
    (s.resetHeld = false → ∃ t, exec .timeBasePulse s = .next t ∧ (∀ n, t.timer n = (s.timer n).map fun k => k - 1) ∧
      (∀ src, t.link src = { s.link src with staleTimer := t.timer (.stale src) }) ∧
      (∀ a, t.axis a = { s.axis a with silenceTimer := t.timer (.silence a), dwellTimer := t.timer (.dwell a),
                                       deadlineTimer := t.timer (.deadline a) }) ∧
      t = { s with links := t.links, axes := t.axes,
                   severity := { s.severity with settleTimer := t.timer .settle, exitHoldTimer := t.timer .exitHold },
                   faults := { s.faults with blinkTimer := t.timer .blink },
                   timecode := { s.timecode with frameLostTimer := t.timer .frameLost } }) ∧
    (s.resetHeld = true → exec .timeBasePulse s = .next s)

/-- A timer of n ms is due at the n-th pulse after its start and not before; a stopped timer stays stopped (R1). -/
def Obligations.TimerExpiresAtItsNthPulse : Prop :=
  ∀ (s : State) (name : TimerName), s.resetHeld = false →
    (∀ n, s.timer name = some n →
      (∀ k, k < n → Timer.due ((afterPulses k s).timer name) = false) ∧ Timer.due ((afterPulses n s).timer name) = true) ∧
    (s.timer name = none → ∀ k, (afterPulses k s).timer name = none)

/-- Commands without their occasion change nothing: an expiry whose timer is not due, a check with no complete frame, a ready of no
transaction in progress, a grant while the port is not free or one that the arbiter would not make now (the head's while the count stands at
4 and an own request waits, an own request's below the highest rank waiting or while the head goes first, R104), the end of a reset that
does not stand. The part has no such events; that the model takes them as nothing is its choice (assumption log 6). -/
def Obligations.CommandsWithoutTheirOccasionChangeNothing : Prop :=
  ∀ s : State,
    (∀ name, s.timer name ≠ some 0 → exec name.expiry s = .next s) ∧
    (∀ line, (∀ f, (s.link line).assembly = .collecting f → f.length ≠ 9) → exec (.inertialFrame line) s = .next s) ∧
    (s.mport.busy = none → ∀ c ∈ [Instr.writeComplete, .ringWordDone, .sweepReadDone, .readReturn, .eventPending], exec c s = .next s) ∧
    (s.resetHeld = true ∨ s.mport.busy ≠ none →
      ∀ c ∈ [Instr.queueHeadGrant, .refreshGrant, .boostGrant, .reportWordGrant, .ringWordGrant, .sweepReadGrant],
        exec c s = .next s) ∧
    (s.resetHeld = false → ∀ straps, exec (.resetEnd straps) s = .next s) ∧
    (s.cport.queue = [] ∨ (ownWaits s = true ∧ s.mport.starvation = 4) → exec .queueHeadGrant s = .next s) ∧
    (s.cport.queue ≠ [] → s.mport.starvation < 4 →
      ∀ c ∈ [Instr.refreshGrant, .boostGrant, .reportWordGrant, .ringWordGrant, .sweepReadGrant], exec c s = .next s) ∧
    (refreshWaits s = false → exec .refreshGrant s = .next s) ∧
    (refreshWaits s = true ∨ s.severity.boostHeld = none → exec .boostGrant s = .next s) ∧
    (refreshWaits s = true ∨ s.severity.boostHeld ≠ none ∨ reportWaits s = false → exec .reportWordGrant s = .next s) ∧
    (refreshWaits s = true ∨ s.severity.boostHeld ≠ none ∨ reportWaits s = true ∨ ringWaits s = false →
      exec .ringWordGrant s = .next s) ∧
    (refreshWaits s = true ∨ s.severity.boostHeld ≠ none ∨ reportWaits s = true ∨ ringWaits s = true ∨ sweepWaits s = false →
      exec .sweepReadGrant s = .next s)

/-! ### The inertial link -/

/-- Frame assembly of a line (R2, R5, R6): HUNTING drops all but 0xA5, which opens an empty frame buffer; COLLECTING appends each good byte,
and is abandoned by a framing error and by a byte timeout. While RESET is held the lines receive nothing (R19). A byte that comes after a
complete frame finds the frame judged (assumption log 7). -/
def Obligations.LineBytesMoveFrameAssembly : Prop :=
  ∀ (s : State) (line : Source) (b : Byte),
    let put := fun asm => { s with links := s.links.set line { s.link line with assembly := asm } }
    (s.resetHeld = false → (s.link line).assembly = .hunting →
      exec (.goodByte line b) s = .next (if b = 0xA5 then put (.collecting []) else s) ∧
      exec (.framingError line) s = .next s ∧ exec (.byteTimeout line) s = .next s) ∧
    (∀ f, s.resetHeld = false → (s.link line).assembly = .collecting f → f.length ≠ 9 →
      exec (.goodByte line b) s = .next (put (.collecting (f ++ [b]))) ∧
      exec (.framingError line) s = .next (put .hunting) ∧ exec (.byteTimeout line) s = .next (put .hunting)) ∧
    (∀ f, FrameReady s line f → ∃ u, exec (.inertialFrame line) s = .next u ∧
      exec (.goodByte line b) s = exec (.goodByte line b) u ∧ exec (.framingError line) s = exec (.framingError line) u ∧
      exec (.byteTimeout line) s = exec (.byteTimeout line) u) ∧
    (s.resetHeld = true → exec (.goodByte line b) s = .next s ∧ exec (.framingError line) s = .next s ∧
      exec (.byteTimeout line) s = .next s ∧ exec (.inertialFrame line) s = .next s)

/-- The check byte (R4): the running value starts at 0; each byte is exclusive-ored in, and eight shifts follow, each shift that loses a 1
exclusive-oring 0x07 in; so the check value is the remainder of the message by x⁸ + x² + x + 1 over the two-element field, taken as it
stands; and a complete frame passes exactly when the check value over its bytes 1 to 8 equals its byte 9. -/
def Obligations.CheckByteIsTheCyclicRedundancyCheck : Prop :=
  let shift := fun c : Byte => if c.getLsbD 7 then (c <<< 1) ^^^ 0x07 else c <<< 1
  let poly := fun b : Byte => (∑ i ∈ Finset.range 8, if b.getLsbD i then Polynomial.X ^ i else 0 : Polynomial (ZMod 2))
  let message := fun bytes : List Byte => bytes.foldl (fun p b => p * Polynomial.X ^ 8 + poly b) 0
  crc [] = 0 ∧ (∀ bytes b, crc (bytes ++ [b]) = shift^[8] (crc bytes ^^^ b)) ∧
    (∀ bytes, ∃ q, message bytes * Polynomial.X ^ 8 =
      q * (Polynomial.X ^ 8 + Polynomial.X ^ 2 + Polynomial.X + 1) + poly (crc bytes)) ∧
    ∀ body check, body.length = 8 → (frameCheck (body ++ [check]) = true ↔ crc body = check)

/-- A frame that fails its check is abandoned and rescanned: the first 0xA5 among the nine bytes is a new sync, the bytes after it the
opening of a new frame buffer; with none the line hunts; nothing outside frame assembly changes (R5, R7). An accepted frame of a source that
is not selected, where no selection follows: the source's record, and SOURCE_STATE where its state changed, and nothing else. A frame whose
self-test failed is abandoned without a rescan (R8 to R11, R17, R18). -/
def Obligations.CompleteFrameIsJudgedByItsCheck : Prop :=
  ∀ (s : State) (line : Source) (f : List Byte), FrameReady s line f →
    (frameCheck f = false →
      ∃ asm, exec (.inertialFrame line) s = .next { s with links := s.links.set line { s.link line with assembly := asm } } ∧
        ((0xA5 ∉ f ∧ asm = .hunting) ∨
          ∃ before after, f = before ++ 0xA5 :: after ∧ 0xA5 ∉ before ∧ asm = .collecting after ∧ after.length ≤ 8)) ∧
    (frameCheck f = true → (frameByte f 8).getLsbD 1 = true →
      exec (.inertialFrame line) s = .next { s with links := s.links.set line { s.link line with assembly := .hunting } }) ∧
    (frameCheck f = true → (frameByte f 8).getLsbD 1 = false → s.selected ≠ some line →
      ((s.link line).state = .live ∨ s.selected ≠ none ∨ s.profileActive = false) →
      ∃ t, exec (.inertialFrame line) s = .next t ∧
        t = { s with links := s.links.set line (acceptedRecord (s.link line) f), report := t.report } ∧
        Reports s t [] (if (s.link line).state = .live then [] else [.sourceState]))

/-- While the profile is ACTIVE and the selection NONE, a source that becomes LIVE brings about a selection: the primary where it is then
LIVE, else with fallback enabled the source itself, else none; the change raises SOURCE_SWITCH, the source classes follow it, and one that
becomes active under HOLD_ALL holds every active axis. The frame is itself the first arrival from the source it has selected, with g = 0: it
is integrated and composed and judged as any arrival (R12, R16, R18, R23, R32, R132, R139). That such a hold comes before that arrival is the
model's choice (assumption log 26). -/
def Obligations.SourceBecomingLiveIsSelected : Prop :=
  ∀ (s : State) (line : Source) (f : List Byte), FrameReady s line f → Acceptable f → s.profileActive = true → s.selected = none →
    (s.link line).state ≠ .live →
    let new := if s.page.primary = line ∨ (s.link s.page.primary).state = .live then some s.page.primary
      else if s.page.fallback = true then some line else none
    let held := { s with axes := Vector.ofFn fun a => sourceHolds s s.page new (s.axis a) }
    ∃ t, exec (.inertialFrame line) s = .next t ∧ t.selected = new ∧
      t.links = s.links.set line (acceptedRecord (s.link line) f) ∧ t.isDirty .sourceState = true ∧
      (new = none → t = { s with links := t.links, report := t.report } ∧ Reports s t [] [.sourceState]) ∧
      (new ≠ none → t.isPending .sourceSwitch = true ∧ t.faults.sourceLost = false ∧
        t.faults.sourceFallback = decide (new ≠ some s.page.primary)) ∧
      (new ≠ none → new ≠ some line → t.axes = held.axes ∧ t.severity = s.severity) ∧
      (new = some line →
        (∀ a, t.axis a = arrivedAxis held a (disturbance s line (frameRates f) a) 0) ∧
        (∀ a, (held.axis a).state = .stabilising ∨ (held.axis a).state = .coasting →
          t.isDirty (.output a) = true ∧ t.isDirty (.correction a) = true) ∧
        ∃ rough, (rough = true ↔ ∃ a, s.page.enabled a = true ∧ s.page.threshold ≤ (disturbance s line (frameRates f) a).natAbs) ∧
          t.severity = severityArrived s.page rough s.severity) ∧
      CaptureCut s t (s.capture.state = .running ∧ new ≠ none) ∧ t.bias = s.bias ∧
      (s.burst.state = .idle → BurstCut s t False) ∧
      t = { s with links := t.links, selected := t.selected, capture := t.capture, zeroResult := t.zeroResult,
                   axes := t.axes, severity := t.severity, burst := t.burst, exciteResult := t.exciteResult, faults := t.faults,
                   report := t.report }

/-- The expiry of a source's stale timer makes it STALE. Where it was selected, the other source is taken if it is LIVE and is the primary
or fallback is enabled, else the selection becomes NONE; a ZERO capture in flight is aborted with SOURCE; a burst in flight is aborted where the
selection becomes NONE or its axis is held, and otherwise runs on past the switch; the source classes follow, each that becomes active
raising FAULT_RAISED and each that ends FAULT_CLEARED, and one that becomes active under HOLD_ALL holds every active axis (R11, R14, R16, R36,
R128, R132, R139, R140). -/
def Obligations.StaleExpiryMovesTheSelection : Prop :=
  ∀ (s : State) (src : Source), (s.link src).staleTimer = some 0 →
    let stale := s.links.set src { s.link src with state := .stale, staleTimer := none }
    let other := otherSource src
    let new := if (s.link other).state = .live ∧ (other = s.page.primary ∨ s.page.fallback = true) then some other else none
    (s.selected ≠ some src → ∃ t, exec (.staleExpiry src) s = .next t ∧
      t = { s with links := stale, report := t.report } ∧ Reports s t [] [.sourceState]) ∧
    (s.selected = some src → s.profileActive = true → ∃ t, exec (.staleExpiry src) s = .next t ∧
      t = { s with links := stale, selected := new, capture := t.capture, zeroResult := t.zeroResult, burst := t.burst,
                   exciteResult := t.exciteResult, axes := t.axes, faults := t.faults, report := t.report } ∧
      CaptureCut s t (s.capture.state = .running) ∧ BurstCut s t ((s.burst.state = .running ∧ new = none) ∨ BurstAxisMoved s t) ∧
      t.isPending .sourceSwitch = true ∧ t.isDirty .sourceState = true ∧
      (t.isPending .faultRaised = true ↔ s.isPending .faultRaised = true ∨
        (t.faults.sourceLost = true ∧ s.faults.sourceLost = false) ∨ (t.faults.sourceFallback = true ∧ s.faults.sourceFallback = false)) ∧
      (t.isPending .faultCleared = true ↔ s.isPending .faultCleared = true ∨
        (t.faults.sourceLost = false ∧ s.faults.sourceLost = true) ∨ (t.faults.sourceFallback = false ∧ s.faults.sourceFallback = true) ∨
        ∃ a, (t.axis a).limitDwellActive ≠ (s.axis a).limitDwellActive ∨ (t.axis a).lateActive ≠ (s.axis a).lateActive) ∧
      (t.isPending .axisState = true ↔ s.isPending .axisState = true ∨ ∃ a, (t.axis a).state ≠ (s.axis a).state) ∧
      t.faults.sourceLost = decide (new = none) ∧ t.faults.sourceFallback = decide (new = some (otherSource s.page.primary)) ∧
      ∀ a, t.axis a = sourceHolds s s.page new (s.axis a))

/-! ### Arrivals -/

/-- An arrival at the axes: each enabled, active axis integrates its steps; a STABILISING or COASTING axis then composes once with the new
angle and counts the arrival toward its refresh; OFF and HELD axes compose nothing (R20 to R26, R40 to R48, R53, R54, R134). -/
def Obligations.ArrivalIntegratesAndComposes : Prop :=
  ∀ (s : State) (line : Source) (f : List Byte), ArrivalReady s line f →
    ∃ t, exec (.inertialFrame line) s = .next t ∧
      (∀ a, t.axis a = arrivedAxis s a (disturbance s line (frameRates f) a) (gapOf (s.link line) f)) ∧
      (∀ a, (s.axis a).state = .stabilising ∨ (s.axis a).state = .coasting →
        t.isDirty (.output a) = true ∧ t.isDirty (.correction a) = true) ∧
      SameDeviceFlags s t ∧
      t = { s with links := s.links.set line (acceptedRecord (s.link line) f), bias := t.bias, capture := t.capture,
                   zeroResult := t.zeroResult, axes := t.axes, severity := t.severity, burst := t.burst,
                   exciteResult := t.exciteResult, faults := t.faults, report := t.report }

/-- An arrival at the Severity Monitor: rough where the magnitude of some enabled axis's rate is T or more, the level up by 2 or down by 1,
and the state change the level calls for; SEVERITY is marked where anything it shows changed, SEVERITY_ENTER raised where CALM is left (R110
to R113, R119). -/
def Obligations.ArrivalJudgesTheRoad : Prop :=
  ∀ (s : State) (line : Source) (f : List Byte), ArrivalReady s line f →
    ∃ t, exec (.inertialFrame line) s = .next t ∧
      (∃ rough, (rough = true ↔ ∃ a, s.page.enabled a = true ∧ s.page.threshold ≤ (disturbance s line (frameRates f) a).natAbs) ∧
        t.severity = severityArrived s.page rough s.severity) ∧
      ((t.severity.level, t.severity.state) ≠ (s.severity.level, s.severity.state) → t.isDirty .severity = true) ∧
      ((t.severity.level, t.severity.state) = (s.severity.level, s.severity.state) → t.isDirty .severity = s.isDirty .severity) ∧
      t.isPending .severityEnter =
        (s.isPending .severityEnter || decide (s.severity.state = .calm ∧ t.severity.state ≠ .calm))

/-- An arrival at a burst in flight: the record advances once, and its last arrival ends it with DONE; with no burst in flight nothing
happens (R123 to R127). An arrival at a ZERO capture of its source: a rate above the stillness threshold aborts it with MOVING; otherwise
the raw rates are summed, and the 1,024th arrival replaces the source's three biases by the rounded means and ends it with DONE; the other
source's biases stand (R34, R35, R37, R38). -/
def Obligations.ArrivalFeedsTheBurstAndTheCapture : Prop :=
  ∀ (s : State) (line : Source) (f : List Byte), ArrivalReady s line f →
    let r := frameRates f
    let moving := s.page.stillness < r.x.natAbs ∨ s.page.stillness < r.y.natAbs ∨ s.page.stillness < r.z.natAbs
    ∃ t, exec (.inertialFrame line) s = .next t ∧ t.bias.get (otherSource line) = s.bias.get (otherSource line) ∧
      (s.burst.state = .idle → t.burst = s.burst ∧ t.exciteResult = s.exciteResult) ∧
      (s.burst.state = .running →
        (2 ≤ s.burst.remaining → t.burst = burstAdvanced s.burst ∧ t.exciteResult = s.exciteResult) ∧
        (s.burst.remaining = 1 → t.burst.state = .idle ∧ t.burst.x = 0 ∧ t.burst.remaining = 0 ∧ t.exciteResult = .done s.burst.axis ∧
          t.isPending .exciteDone = true ∧ t.isDirty .exciteResult = true)) ∧
      (s.capture.state = .idle → t.capture = s.capture ∧ t.bias = s.bias ∧ t.zeroResult = s.zeroResult) ∧
      ∀ c, s.capture = c → c.state = .running → c.source = line →
        (moving → t.capture.state = .idle ∧ t.bias = s.bias ∧ t.zeroResult = .moving line ∧ t.isPending .zeroDone = true ∧
          t.isDirty .zeroResult = true) ∧
        (¬ moving → c.count + 1 ≠ 1024 →
          t.capture = { c with sums := ⟨c.sums.x + r.x, c.sums.y + r.y, c.sums.z + r.z⟩, count := c.count + 1 } ∧
          t.bias = s.bias ∧ t.zeroResult = s.zeroResult) ∧
        (¬ moving → c.count + 1 = 1024 →
          t.capture.state = .idle ∧ t.zeroResult = .done line ∧ t.isPending .zeroDone = true ∧ t.isDirty .zeroResult = true ∧
          t.bias.get line = ⟨roundHalfAway (c.sums.x + r.x) 1024, roundHalfAway (c.sums.y + r.y) 1024,
            roundHalfAway (c.sums.z + r.z) 1024⟩ ∧
          t.isDirty (.biasX line) = true ∧ t.isDirty (.biasY line) = true ∧ t.isDirty (.biasZ line) = true)

/-- The leak of an angle (R24): 0 for 0, otherwise the whole part of the magnitude over 2^k but at least 1, with the angle's sign; for a
shift from 6 to 16 never more than the angle, and equal to it only at magnitude 1. With no rate an angle goes to 0 (R27): each step brings
its magnitude down by at least 1 and keeps its sign or reaches 0; below 2^k it falls by one unit a step, so that its last stretch is at most
2^k − 1 steps; and at 0 it stays. -/
def Obligations.LeakIsTheWholePartAndReturnsTheAngleToZero : Prop :=
  (∀ k, leak k 0 = 0) ∧
  (∀ k theta, theta ≠ 0 → (leak k theta).natAbs = max 1 (theta.natAbs / 2 ^ k) ∧ (leak k theta).sign = theta.sign) ∧
  (∀ k theta, 6 ≤ k → k ≤ 16 → (leak k theta).natAbs ≤ theta.natAbs) ∧
  (∀ k theta, 6 ≤ k → k ≤ 16 → theta ≠ 0 → (leak k theta).natAbs = theta.natAbs → theta.natAbs = 1) ∧
  leak 12 640000 = 156 ∧ leak 12 (-640000) = -156 ∧ leak 12 3000 = 1 ∧ leak 12 (-7) = -1 ∧
  ∀ k, 6 ≤ k → k ≤ 16 →
    (∀ theta, theta ≠ 0 → (integrateStep k 0 theta).natAbs + 1 ≤ theta.natAbs ∧
      (integrateStep k 0 theta = 0 ∨ (integrateStep k 0 theta).sign = theta.sign)) ∧
    (∀ theta, theta ≠ 0 → theta.natAbs < 2 ^ k → (integrateStep k 0 theta).natAbs + 1 = theta.natAbs) ∧
    (∀ theta, theta.natAbs < 2 ^ k → ∃ n ≤ 2 ^ k - 1, integrate k 0 n theta = 0) ∧
    (∀ theta, ∃ n, ∀ m, n ≤ m → integrate k 0 m theta = 0)

/-! ### Expiries -/

/-- The expiry of a STABILISING axis's silence timer makes CONTROLLER_SILENT active for it, and its policy acts: CONTINUE sends the axis to
COASTING, HOLD_AXIS holds it, HOLD_ALL holds every active axis, each with CONTROLLER_SILENT as cause; a burst on an axis whose state so
changes is aborted (R66, R67, R70, R71, R128, R133, R139). The policies are those an accepted profile may name (R138), as every active
profile's are. -/
def Obligations.SilenceExpiryActsByItsPolicy : Prop :=
  ∀ (s : State) (a : AxisId), (s.axis a).silenceTimer = some 0 → s.profileActive = true → s.page.policyOk = true →
    (s.axis a).state = .stabilising →
    let silent := { s.axis a with silenceTimer := none, silentActive := true }
    ∃ t, exec (.silenceExpiry a) s = .next t ∧ SameDeviceFlags s t ∧
      t = { s with axes := t.axes, burst := t.burst, exciteResult := t.exciteResult, faults := t.faults, report := t.report } ∧
      ((s.axis a).silentActive = false → t.isPending .faultRaised = true) ∧ t.isPending .axisState = true ∧
      BurstCut s t (BurstAxisMoved s t) ∧
      (s.page.policy .controllerSilent = .continue →
        t.axis a = { silent with state := .coasting } ∧ ∀ b, b ≠ a → t.axis b = s.axis b) ∧
      (s.page.policy .controllerSilent = .holdAxis →
        t.axis a = heldBy .controllerSilent silent ∧ ∀ b, b ≠ a → t.axis b = s.axis b) ∧
      (s.page.policy .controllerSilent = .holdAll →
        t.axis a = heldBy .controllerSilent silent ∧ ∀ b, b ≠ a → t.axis b = heldBy .controllerSilent (s.axis b))

/-- The expiry of an axis's dwell timer makes LIMIT_DWELL active for it, and that of its refresh-deadline timer with the mark still set
REFRESH_LATE; its policy acts. Under CONTINUE the axis goes on (a late refresh stays pending); a hold has the class lapse at once, cancels
the refresh, and the class stands among the causes; a burst on an axis that is so held is aborted (R56, R57, R71, R128, R134, R136, R139).
-/
def Obligations.DwellAndDeadlineExpiriesActByTheirPolicies : Prop :=
  ∀ (s : State) (a : AxisId), s.profileActive = true →
    let acts := fun (c : Instr) (policy : Policy) (cause : Cause) (flagged : Axis) => ∃ t, exec c s = .next t ∧ SameDeviceFlags s t ∧
      t.isPending .faultRaised = true ∧ BurstCut s t (BurstAxisMoved s t) ∧
      t = { s with axes := t.axes, burst := t.burst, exciteResult := t.exciteResult, faults := t.faults, report := t.report } ∧
      (policy = .continue → t.axis a = flagged ∧ ∀ b, b ≠ a → t.axis b = s.axis b) ∧
      (policy = .holdAxis → t.axis a = heldBy cause flagged ∧ ∀ b, b ≠ a → t.axis b = s.axis b) ∧
      (policy = .holdAll → t.axis a = heldBy cause flagged ∧ ∀ b, b ≠ a → t.axis b = heldBy cause (s.axis b))
    ((s.axis a).dwellTimer = some 0 → (s.axis a).limitDwellActive = false →
      acts (.dwellExpiry a) (s.page.policy .limitDwell) .limitDwell { s.axis a with dwellTimer := none, limitDwellActive := true }) ∧
    ((s.axis a).deadlineTimer = some 0 → (s.axis a).refreshPending = true → (s.axis a).lateActive = false →
      acts (.refreshDeadlineExpiry a) (s.page.policy .refreshLate) .refreshLate { s.axis a with deadlineTimer := none, lateActive := true })

/-- The settle expiry ends BOOSTING in ROUGH, or in EASING with the exit hold started where the level is 0, and raises no event; the
exit-hold expiry ends EASING in CALM, holds BOOST_NORMAL where the boost is enabled and raises SEVERITY_LEAVE; each marks SEVERITY (R112,
R114, R116). The half of a blink that runs out turns the lamp, and the next half begins: 500 ms for the slow blink, 125 ms for the fast
(R142). -/
def Obligations.SeverityTimersAndBlinkExpire : Prop :=
  ∀ s : State,
    (s.faults.blinkTimer = some 0 → s.faults.pattern = .slowBlink → exec .statBlinkToggle s =
      .next { s with faults := { s.faults with lampLit := !s.faults.lampLit, blinkTimer := some 500 } }) ∧
    (s.faults.blinkTimer = some 0 → s.faults.pattern = .fastBlink → exec .statBlinkToggle s =
      .next { s with faults := { s.faults with lampLit := !s.faults.lampLit, blinkTimer := some 125 } }) ∧
    (s.severity.settleTimer = some 0 → s.severity.state = .boosting → ∃ t, exec .settleExpiry s = .next t ∧
      t = { s with severity := { s.severity with
                     settleTimer := none, state := if s.severity.level = 0 then .easing else .rough,
                     exitHoldTimer := if s.severity.level = 0 then some s.page.exitHoldMs else s.severity.exitHoldTimer },
                   report := t.report } ∧
      Reports s t [] [.severity]) ∧
    (s.severity.exitHoldTimer = some 0 → s.severity.state = .easing → ∃ t, exec .exitHoldExpiry s = .next t ∧
      t = { s with severity := { s.severity with
                     exitHoldTimer := none, state := .calm,
                     boostHeld := if s.page.boostEnable = true then some s.page.boostNormal else s.severity.boostHeld },
                   report := t.report } ∧
      Reports s t [.severityLeave] [.severity])

/-- The expiry of the frame-lost timer sets the condition and, while the profile is ACTIVE, FRAME_LOST; the next FRAME pulse ends both
(R137). -/
def Obligations.FrameLostExpiryAndRecovery : Prop :=
  ∀ s : State,
    (s.timecode.frameLostTimer = some 0 → ∃ t, exec .frameLostExpiry s = .next t ∧
      t = { s with timecode := { s.timecode with frameLostTimer := none, frameLost := true }, faults := t.faults, report := t.report } ∧
      t.faults.sourceLost = s.faults.sourceLost ∧ t.faults.sourceFallback = s.faults.sourceFallback ∧
      t.faults.frameLost = (s.profileActive || s.faults.frameLost) ∧
      (s.profileActive = true → s.faults.frameLost = false → t.isPending .faultRaised = true ∧ t.isDirty .activeFaults = true)) ∧
    (s.resetHeld = false → ∃ t, exec .framePulse s = .next t ∧ t.timecode.frameLostTimer = some 100 ∧ t.timecode.frameLost = false ∧
      (s.profileActive = true → t.faults.frameLost = false ∧ (s.faults.frameLost = true → t.isPending .faultCleared = true)))

/-! ### FRAME pulses -/

/-- A FRAME pulse with no pending set advances a VALID timecode by one frame, carrying at the rate in force and at 60, 60 and 24, and leaves
an INVALID one, while a reset stands as well; one that finds a pending set makes it the timecode, VALID and not advanced, and raises
TC_APPLIED (R145, R147, R149). That both TIMECODE words are marked at each advance, also where only one has changed, is the model's reading
(assumption log 12). -/
def Obligations.FramePulseMovesTheTimecode : Prop :=
  ∀ s : State, TimecodeInRange s →
    let rate := s.timecode.rate.perSecond
    let count := fun x : Time => ((x.hours * 60 + x.minutes) * 60 + x.seconds) * rate + x.frames
    ∃ t, exec .framePulse s = .next t ∧ t.timecode.pendingSet = none ∧ t.timecode.rate = s.timecode.rate ∧
      (s.timecode.pendingSet = none → t.timecode.valid = s.timecode.valid ∧
        (s.timecode.valid = true → count t.timecode.time = (count s.timecode.time + 1) % (24 * 60 * 60 * rate) ∧
          t.timecode.time.inRange rate = true ∧ t.isDirty .timecode0 = true ∧ t.isDirty .timecode1 = true) ∧
        (s.timecode.valid = false → t.timecode.time = s.timecode.time)) ∧
      (∀ p, s.timecode.pendingSet = some p → t.timecode.time = p ∧ t.timecode.valid = true ∧ t.isPending .tcApplied = true ∧
        t.isDirty .timecode0 = true ∧ t.isDirty .timecode1 = true ∧ t.isDirty .timecodeState = true) ∧
      t = { s with timecode := t.timecode, faults := t.faults, ring := t.ring, links := t.links, report := t.report }

/-- A FRAME pulse at the Ring Writer: with the ring enabled, empty-handed and not full, the record of the pulse is staged in slot p with the
timecode the pulse has left, and the saturation-seen flags are cleared; with the ring busy or full the pulse raises RING_OVERRUN; with the
ring disabled nothing is captured (R9, R145, R150, R151). -/
def Obligations.FramePulseCapturesTheRecord : Prop :=
  ∀ s : State, ∃ t, exec .framePulse s = .next t ∧
    (s.ringEnabled = false → t.ring = s.ring ∧ t.links = s.links ∧ t.isPending .ringOverrun = s.isPending .ringOverrun) ∧
    (s.ringEnabled = true → s.ring.staged ≠ none ∨ (s.ring.producer + 1) % s.page.ringLength = s.ring.consumer →
      t.ring = s.ring ∧ t.links = s.links ∧ t.isPending .ringOverrun = true) ∧
    (s.ringEnabled = true → s.ring.staged = none → (s.ring.producer + 1) % s.page.ringLength ≠ s.ring.consumer →
      (∀ src, t.link src = { s.link src with satSeen := false }) ∧ t.isPending .ringOverrun = s.isPending .ringOverrun ∧
      ∃ words, t.ring = { s.ring with staged := some words, slot := s.ring.producer, granted := 0, position := 0 } ∧
        words[0] = ofBytes (BitVec.ofNat 8 t.timecode.time.hours) (BitVec.ofNat 8 t.timecode.time.minutes) ∧
        words[1] = ofBytes (BitVec.ofNat 8 t.timecode.time.seconds) (BitVec.ofNat 8 t.timecode.time.frames) ∧
        words[2].getLsbD 15 = t.timecode.valid ∧ (words[2].extractLsb' 0 2).toNat = selectedCode s.selected ∧
        (words[2].extractLsb' 2 2).toNat = s.severity.state.code ∧ words[2].getLsbD 4 = (s.link .a).satSeen ∧
        words[2].getLsbD 5 = (s.link .b).satSeen ∧
        (∀ a : AxisId, (words[3].extractLsb' (2 * a.val) 2).toNat = (s.axis a).state.code) ∧
        words[3].getLsbD 8 = decide (s.burst.state = .running) ∧
        (words[3].extractLsb' 9 2).toNat = (if s.burst.state = .running then s.burst.axis.val else 0) ∧
        words[2].extractLsb' 6 9 = 0 ∧ words[3].extractLsb' 11 5 = 0 ∧
        ∀ a : AxisId, words[4 + 2 * a.val] = BitVec.ofInt 16 (s.axis a).output ∧
          words[5 + 2 * a.val] = BitVec.ofInt 16 (s.axis a).correction)

/-! ### Commands -/

/-- A command row is the arm controller's write of its code and operand to COMMAND with both lanes, and APPLY its write of the apply code to
APPLY with both lanes: the model's choice of what these rows are (assumption log 2). The common tests refuse a command before its owner sees
it, each refusal reported in COMMAND_RESULT with COMMAND_DONE and changing nothing else: NOT_READY while the sweep runs, NO_PROFILE while the
profile is EMPTY but for TC_SET, BAD_AXIS for an axis operand over 3, UNKNOWN for a code over 8 (R161). -/
def Obligations.CommonTestsRefuseInTheirOrder : Prop :=
  ∀ (s : State) (code operand : Byte), code ≠ 0 → CportTakes s →
    let write := fun (c : Byte) => Instr.controllerWrite (addrAt s.strapPage 0) (ofBytes c operand) .both
    let refusal :=
      if s.profile.sweep ≠ .done then some CmdResult.notReady
      else if s.profileActive = false ∧ code ≠ 7 then some .noProfile
      else if code.toNat ≤ 4 ∧ 3 < operand.toNat then some .badAxis
      else if 8 < code.toNat then some .unknown
      else none
    (∀ r, refusal = some r → ∃ t, exec (write code) s = .next t ∧ RefusedWith s t code operand r) ∧
    (9 ≤ code.toNat → exec (.unknownCommand code operand) s = exec (write code) s ∧
      (CommandReady s → ∃ t, exec (.unknownCommand code operand) s = .next t ∧ RefusedWith s t code operand .unknown)) ∧
    exec (.start operand) s = exec (write 1) s ∧ exec (.stop operand) s = exec (write 2) s ∧
    exec (.park operand) s = exec (write 3) s ∧ exec (.release operand) s = exec (write 4) s ∧
    exec (.zero operand) s = exec (write 5) s ∧ exec (.excite operand) s = exec (write 6) s ∧
    exec (.tcSet operand) s = exec (write 7) s ∧ exec (.sourceReturn operand) s = exec (write 8) s ∧
    exec .apply s = exec (.controllerWrite (addrAt s.strapPage 1) 0x00A5 .both) s

/-- START's own refusals in their order, each changing nothing but the reported result (R63); and an accepted START (R49, R54, R60, R64,
R66): θ zeroed, the intent clamped into the soft limits as output, no correction, RATE and LIMIT clear, the count 0 and a refresh marked,
the silence timer started unless the window is 0, STABILISING, DONE; every other axis and every other part of the state stands. -/
def Obligations.StartRefusesInOrderOrTakesTheClampedIntent : Prop :=
  ∀ (s : State) (a : AxisId), CommandReady s → BurstOnStabilising s →
    let i := (s.axis a).intent.toInt
    let refusal :=
      if s.page.enabled a = false then some CmdResult.disabled
      else if (s.axis a).state ≠ .off then some .wrongState
      else if (s.axis a).intentValid = false then some .noIntent
      else if s.selected = none then some .noSource
      else if ∃ c ∈ FaultClass.all, s.page.policy c = .holdAll ∧ s.classActive c = true then some .faultActive
      else none
    (∀ r, refusal = some r → ∃ t, exec (.start (axisByte a)) s = .next t ∧ RefusedWith s t 1 (axisByte a) r) ∧
    (refusal = none → ∃ t, exec (.start (axisByte a)) s = .next t ∧
      t = { s with
        axes := withAxis s a (refreshMarked { s.axis a with
          state := .stabilising, causes := .empty, theta := 0, correction := 0, rate := false, limit := false, refreshCount := 0,
          output := if i > s.page.softHi a then s.page.softHi a else if i < s.page.softLo a then s.page.softLo a else i,
          silenceTimer := silenceStart s.page a })
        cport := commandQueued s 1 (axisByte a), profile := commandShown s 1 (axisByte a) .done, report := t.report } ∧
      Reports s t [.axisState, .commandDone] [.axisStatus a, .output a, .correction a, .commandResult])

/-- A STOP of an active axis: causes emptied, refresh cancelled, timers stopped, its axis classes ended, OFF, a burst on it aborted; intent,
output address, output, correction, flags and θ kept. A STOP of an OFF axis changes nothing. Both complete with DONE (R56, R60, R76, R128).
-/
def Obligations.StopTakesTheAxisOff : Prop :=
  ∀ (s : State) (a : AxisId), CommandReady s →
    ((s.axis a).state = .off → ∃ t, exec (.stop (axisByte a)) s = .next t ∧ RefusedWith s t 2 (axisByte a) .done) ∧
    ((s.axis a).state ≠ .off → ∃ t, exec (.stop (axisByte a)) s = .next t ∧
      t = { s with
        axes := withAxis s a { s.axis a with
          state := .off, causes := .empty, refreshPending := false, deadlineTimer := none, silenceTimer := none, dwellTimer := none,
          silentActive := false, limitDwellActive := false, lateActive := false }
        burst := t.burst, exciteResult := t.exciteResult
        cport := commandQueued s 2 (axisByte a), profile := commandShown s 2 (axisByte a) .done, faults := t.faults,
        report := t.report } ∧
      SameDeviceFlags s t ∧ BurstCut s t (burstOn s a = true) ∧
      Raises s t ([.axisState, .commandDone]
        ++ (if (s.axis a).silentActive || (s.axis a).limitDwellActive || (s.axis a).lateActive then [.faultCleared] else [])
        ++ (if burstOn s a then [.exciteDone] else [])) ∧
      MarksWithin s t ([.axisStatus a, .commandResult] ++ if burstOn s a then [.exciteResult] else []) faultWords)

/-- A PARK of a STABILISING or COASTING axis holds it with COMMAND as its cause, its output frozen, its refresh cancelled and its timers
stopped; of a HELD axis it adds COMMAND to the causes; of an OFF axis it is refused with WRONG_STATE (R70, R71, R73). -/
def Obligations.ParkHoldsTheAxis : Prop :=
  ∀ (s : State) (a : AxisId), CommandReady s →
    ((s.axis a).state = .off → ∃ t, exec (.park (axisByte a)) s = .next t ∧ RefusedWith s t 3 (axisByte a) .wrongState) ∧
    ((s.axis a).state = .held → ∃ t, exec (.park (axisByte a)) s = .next t ∧
      t = { s with
        axes := withAxis s a { s.axis a with causes := (s.axis a).causes.add .command }
        cport := commandQueued s 3 (axisByte a), profile := commandShown s 3 (axisByte a) .done, report := t.report } ∧
      Reports s t [.commandDone] (.commandResult :: if (s.axis a).causes.command then [] else [.axisStatus a])) ∧
    ((s.axis a).state = .stabilising ∨ (s.axis a).state = .coasting → ∃ t, exec (.park (axisByte a)) s = .next t ∧
      t = { s with
        axes := withAxis s a (heldBy .command (s.axis a))
        burst := t.burst, exciteResult := t.exciteResult
        cport := commandQueued s 3 (axisByte a), profile := commandShown s 3 (axisByte a) .done, faults := t.faults,
        report := t.report } ∧
      SameDeviceFlags s t ∧ BurstCut s t (burstOn s a = true) ∧
      Raises s t ([.axisState, .commandDone]
        ++ (if (s.axis a).limitDwellActive || (s.axis a).lateActive then [.faultCleared] else [])
        ++ (if burstOn s a then [.exciteDone] else [])) ∧
      MarksWithin s t ([.axisStatus a, .commandResult] ++ if burstOn s a then [.exciteResult] else []) faultWords)

/-- A RELEASE of an axis that is not HELD is refused with WRONG_STATE, of one a cause of which is still active with FAULT_ACTIVE. Otherwise
the causes are emptied, θ is zeroed under RESET and kept under TRACKED, the axis is STABILISING, its silence timer starts, its count is 0,
it composes once without excitation from the held output, and a refresh is marked; DONE (R74, R75). -/
def Obligations.ReleaseComposesFromTheImage : Prop :=
  ∀ (s : State) (a : AxisId), CommandReady s → BurstOnStabilising s →
    let ax := s.axis a
    let blocked := (ax.causes.sourceLost = true ∧ s.faults.sourceLost = true) ∨
      (ax.causes.sourceFallback = true ∧ s.faults.sourceFallback = true) ∨ (ax.causes.controllerSilent = true ∧ ax.silentActive = true) ∨
      (ax.causes.limitDwell = true ∧ ax.limitDwellActive = true) ∨ (ax.causes.refreshLate = true ∧ ax.lateActive = true)
    (ax.state ≠ .held → ∃ t, exec (.release (axisByte a)) s = .next t ∧ RefusedWith s t 4 (axisByte a) .wrongState) ∧
    (ax.state = .held → blocked → ∃ t, exec (.release (axisByte a)) s = .next t ∧ RefusedWith s t 4 (axisByte a) .faultActive) ∧
    (ax.state = .held → ¬ blocked → ∃ t, exec (.release (axisByte a)) s = .next t ∧
      t = { s with
        axes := withAxis s a (refreshMarked (composedAxis s.page a s.severity.state 0 { ax with
          state := .stabilising, causes := .empty, theta := if s.page.resumeMode a = .reset then 0 else ax.theta,
          silenceTimer := silenceStart s.page a, refreshCount := 0 }))
        cport := commandQueued s 4 (axisByte a), profile := commandShown s 4 (axisByte a) .done, faults := t.faults,
        report := t.report } ∧
      SameDeviceFlags s t ∧ t.isPending .axisState = true ∧ t.isPending .commandDone = true ∧
      MarksWithin s t [.axisStatus a, .output a, .correction a, .commandResult] faultWords)

/-- ZERO is refused with NO_SOURCE while no source is selected and with BUSY while a capture runs; otherwise a capture of the selected
source starts, its sums and count 0, and ZERO_RESULT shows RUNNING; ACCEPTED, whatever the operand (R33). -/
def Obligations.ZeroStartsACapture : Prop :=
  ∀ (s : State) (operand : Byte), CommandReady s →
    (s.selected = none → ∃ t, exec (.zero operand) s = .next t ∧ RefusedWith s t 5 operand .noSource) ∧
    (s.selected ≠ none → s.capture.state = .running → ∃ t, exec (.zero operand) s = .next t ∧ RefusedWith s t 5 operand .busy) ∧
    (∀ src, s.selected = some src → s.capture.state = .idle → ∃ t, exec (.zero operand) s = .next t ∧
      t = { s with capture := { state := .running, source := src, sums := ⟨0, 0, 0⟩, count := 0 }, zeroResult := .running src,
                   cport := commandQueued s 5 operand, profile := commandShown s 5 operand .accepted, report := t.report } ∧
      Reports s t [.commandDone] [.zeroResult, .commandResult])

/-- EXCITE's refusals in their order, and its acceptance: the request words of the shadow start a burst, its noise state at the seed and its
x at +A, and EXCITE_RESULT shows RUNNING; no axis moves; ACCEPTED, whatever the operand (R121, R122). -/
def Obligations.ExciteStartsABurst : Prop :=
  ∀ (s : State) (operand : Byte), CommandReady s →
    let p := s.profile.shadow
    let axis := (lowByte (p.word 0xC0)).toNat
    let waveform := (highByte (p.word 0xC0)).toNat
    let amplitude := (p.word 0xC1).toNat
    let half := (p.word 0xC2).toNat
    let length := (p.word 0xC3).toNat
    let bad := 3 < axis ∨ 1 < waveform ∨ 4095 < amplitude ∨ half = 0 ∨ 4095 < half ∨ length = 0
    (bad → ∃ t, exec (.excite operand) s = .next t ∧ RefusedWith s t 6 operand .badParam) ∧
    (¬ bad → s.burst.state = .running → ∃ t, exec (.excite operand) s = .next t ∧ RefusedWith s t 6 operand .busy) ∧
    ∀ a : AxisId, a.val = axis → ¬ bad → s.burst.state = .idle →
      ((s.axis a).state ≠ .stabilising → ∃ t, exec (.excite operand) s = .next t ∧ RefusedWith s t 6 operand .wrongState) ∧
      ((s.axis a).state = .stabilising → s.selected = none →
        ∃ t, exec (.excite operand) s = .next t ∧ RefusedWith s t 6 operand .noSource) ∧
      ((s.axis a).state = .stabilising → s.selected ≠ none → ∃ t, exec (.excite operand) s = .next t ∧
        t = { s with
          burst := { state := .running, axis := a, waveform := if waveform = 0 then .square else .noise, amplitude := amplitude,
                     halfPeriod := half, remaining := length, phase := 0, noise := 0x7FFF, x := (amplitude : Int) }
          exciteResult := .running a, cport := commandQueued s 6 operand, profile := commandShown s 6 operand .accepted,
          report := t.report } ∧
        Reports s t [.commandDone] [.exciteResult, .commandResult])

/-- TC_SET, also while the profile is EMPTY: a time out of range at the rate in force is refused with BAD_TIME; otherwise the four fields of
the shadow become the pending set, and the timecode and its state stand; ACCEPTED, whatever the operand (R146). -/
def Obligations.TcSetHoldsAPendingSet : Prop :=
  ∀ (s : State) (operand : Byte), CportTakes s → s.profile.sweep = .done →
    let p := s.profile.shadow
    let time : Time := { hours := (highByte (p.word 0xC4)).toNat, minutes := (lowByte (p.word 0xC4)).toNat,
                         seconds := (highByte (p.word 0xC5)).toNat, frames := (lowByte (p.word 0xC5)).toNat }
    let bad := 23 < time.hours ∨ 59 < time.minutes ∨ 59 < time.seconds ∨ s.timecode.rate.perSecond ≤ time.frames
    (bad → ∃ t, exec (.tcSet operand) s = .next t ∧ RefusedWith s t 7 operand .badTime) ∧
    (¬ bad → ∃ t, exec (.tcSet operand) s = .next t ∧
      t = { s with timecode := { s.timecode with pendingSet := some time }, cport := commandQueued s 7 operand,
                   profile := commandShown s 7 operand .accepted, report := t.report } ∧
      Reports s t [.commandDone] (.commandResult :: if s.timecode.pendingSet = none then [.timecodeState] else []))

/-- SOURCE_RETURN is refused with WRONG_STATE while the primary is selected and with NO_SOURCE while it is not LIVE; otherwise the primary
is selected, a capture in flight is aborted, both source classes end, and a burst runs on; DONE, whatever the operand (R15, R16, R36, R128,
R132). -/
def Obligations.SourceReturnSelectsThePrimary : Prop :=
  ∀ (s : State) (operand : Byte), CommandReady s →
    let primary := s.page.primary
    (s.selected = some primary → ∃ t, exec (.sourceReturn operand) s = .next t ∧ RefusedWith s t 8 operand .wrongState) ∧
    (s.selected ≠ some primary → (s.link primary).state ≠ .live →
      ∃ t, exec (.sourceReturn operand) s = .next t ∧ RefusedWith s t 8 operand .noSource) ∧
    (s.selected ≠ some primary → (s.link primary).state = .live → ∃ t, exec (.sourceReturn operand) s = .next t ∧
      t = { s with selected := some primary, capture := t.capture, zeroResult := t.zeroResult, faults := t.faults, report := t.report,
                   cport := commandQueued s 8 operand, profile := commandShown s 8 operand .done } ∧
      CaptureCut s t (s.capture.state = .running) ∧
      t.faults.sourceLost = false ∧ t.faults.sourceFallback = false ∧ t.faults.frameLost = s.faults.frameLost ∧
      t.isPending .sourceSwitch = true ∧ t.isDirty .sourceState = true ∧ t.isPending .commandDone = true)

/-! ### Applies -/

/-- An apply request that passes its tests is accepted: the shadow becomes the active profile, APPLY_RESULT shows APPLIED, and every block
takes the profile up: the selection is reviewed if NONE, refresh counts go to 0, intent-valid and output addresses are cleared and the
queued writes bound anew where the window table changed, a boost value is held where the boost settings changed, the timecode is invalidated
where the rate changed, the ring restarts where its settings changed, the source classes are judged, a standing frame-lost condition is taken
up by the first profile, the headline and STAT are judged, and a burst in flight runs on unless its axis is held. θ, biases, intents,
outputs, the level, the severity state and its timers are kept, and an axis's state and causes too, but where a source class that the apply
makes active has HOLD_ALL (R13, R53, R62, R97, R117, R128, R132, R143, R148, R154, R160). -/
def Obligations.AcceptedApplyTakesTheProfileUp : Prop :=
  ∀ s : State, CportTakes s → s.profile.sweep = .done →
    let p := s.profile.shadow.setWord 1 0x00A5
    p.rangeFault s.strapPage = none → p.priorityOk = true → p.policyOk = true →
    ((∀ a, (s.axis a).state = .off) ∨ ∃ old, s.profile.active = some old ∧ structuralDiffer old p = false) →
    let queued := { s with cport := queued s (addrAt s.strapPage 1) 0x00A5 .both none }
    ∃ t, exec .apply s = .next t ∧
      t.profile = { s.profile with shadow := p, touched := s.profile.touched.set 1 true, active := some p, applyResult := .applied,
                                   applyOffset := 0 } ∧
      t.isPending .applyDone = true ∧ t.isDirty .applyResult = true ∧ (s.profile.active = none → t.isDirty .profileState = true) ∧
      TakenUp queued p t

/-- A refused apply changes nothing but the shadow's APPLY word and APPLY_RESULT, which shows the first test that fails, in the order
NOT_READY, RANGE with the lowest offset at fault, PRIORITY, POLICY, STRUCTURAL_BUSY, and raises APPLY_DONE (R159). RANGE fails exactly where
some field as 12.1 places it breaks its range, a window or the ring region or the boost address its place, and reports the lowest offset
charged (R82, R85, R117, R165; that lo and hi are charged to lo's word is the model's reading: assumption log 13); PRIORITY passes exactly
where the six fields are 1 to 6, each once; POLICY exactly where no field holds a value its class does not allow; STRUCTURAL_BUSY compares
exactly the structural fields (R83, R160); and two valid INTENT windows of a profile whose windows pass never match one address for two axes
(R85, R138, R141). -/
def Obligations.RefusedApplyShowsTheFirstFailure : Prop :=
  (∀ (p : Page) (strap : PageNo),
    (∀ o : Offset, p.rangeFault strap = some o ↔ failsAt p strap o.toNat ∧ ∀ k < o.toNat, ¬ failsAt p strap k) ∧
    (p.rangeFault strap = none ↔ ∀ k, ¬ failsAt p strap k) ∧
    (∀ old : Page, (structuralDiffer old p = true ↔ structureDiffers old p) ∧
      (tablesDiffer old p = true ↔ ∃ n, entryDiffers old p n)) ∧
    (p.priorityOk = true ↔ p.priorityFields.Perm [1, 2, 3, 4, 5, 6]) ∧
    (p.policyOk = true ↔ ∀ c ∈ FaultClass.all, p.policy c ≠ .invalid ∧
      (p.policy c = .holdAxis → c = .controllerSilent ∨ c = .limitDwell ∨ c = .refreshLate) ∧ (p.policy c = .holdAll → c ≠ .frameLost)) ∧
    ((∀ w, p.windowAtFault strap w = false) → ∀ u ∈ p.windows, ∀ v ∈ p.windows, u.kind = .intent → v.kind = .intent →
      ∀ addr, u.covers addr = true → v.covers addr = true → u.axis = v.axis)) ∧
  ∀ s : State, CportTakes s →
    let p := s.profile.shadow.setWord 1 0x00A5
    let busy := (∃ a, (s.axis a).state ≠ .off) ∧ ∃ old, s.profile.active = some old ∧ structuralDiffer old p = true
    let refusal : Option (ApplyResult × Offset) :=
      if s.profile.sweep ≠ .done then some (.notReady, 0)
      else if p.rangeFault s.strapPage ≠ none then some (.range, (p.rangeFault s.strapPage).getD 0)
      else if p.priorityOk = false then some (.priority, 0)
      else if p.policyOk = false then some (.policy, 0)
      else if busy then some (.structuralBusy, 0)
      else none
    ∀ r, refusal = some r → ∃ t, exec .apply s = .next t ∧
      t = { s with cport := queued s (addrAt s.strapPage 1) 0x00A5 .both none,
                   profile := { s.profile with shadow := p, touched := s.profile.touched.set 1 true, applyResult := r.1,
                                               applyOffset := r.2 },
                   report := t.report } ∧
      Reports s t [.applyDone] [.applyResult]

/-! ### The windows and the C-port -/

/-- A transaction is classified by the first test that applies: profile page, report page, ring region, then the lowest-numbered window that
matches, agreeing with its base on every bit of its mask; else it is unmatched (R82, R84, R86). -/
def Obligations.ClassificationFollowsTheFirstTest : Prop :=
  ∀ (s : State) (addr : Addr),
    (addr.toNat / 256 = s.strapPage.toNat → s.classify addr = .profileWord (BitVec.ofNat 8 (addr.toNat % 256))) ∧
    (addr.toNat / 256 = (s.strapPage.toNat + 1) % 1024 → s.classify addr = .reportWord (BitVec.ofNat 8 (addr.toNat % 256))) ∧
    (addr.toNat / 256 ≠ s.strapPage.toNat → addr.toNat / 256 ≠ (s.strapPage.toNat + 1) % 1024 →
      let ring := ∃ p, s.profile.active = some p ∧ p.ringEnable = true ∧
        ∃ i < 12 * p.ringLength, addr.toNat = (256 * p.ringBase + i) % 262144
      let deciding := fun (p : Page) (n : Fin 8) => (p.window n).valid = true ∧
        (∀ i < 18, (p.window n).mask.getLsbD i = true → addr.getLsbD i = (p.window n).base.getLsbD i)
      (ring → s.classify addr = .ringWord) ∧
      (¬ ring → ∀ p, s.profile.active = some p → ∀ n, deciding p n → (∀ m, m < n → ¬ deciding p m) →
        s.classify addr = (if (p.window n).kind = .intent then .intent (p.window n).axis else .guard (p.window n).axis)) ∧
      (¬ ring → (∀ p, s.profile.active = some p → ∀ n, ¬ deciding p n) → s.classify addr = .unmatched))

/-- An intent write: recorded in every state with its lanes merged, setting the output address and ending CONTROLLER_SILENT; STABILISING and
COASTING restart the silence timer, become STABILISING and compose; OFF and HELD compose nothing; the write is queued intent-bound with the
data and lanes it came with (R61, R62, R65, R68, R72, R91, R92). -/
def Obligations.IntentWriteActsByTheAxisState : Prop :=
  ∀ (s : State) (addr : Addr) (data : Word) (lanes : Lanes) (a : AxisId), CportTakes s → lanes ≠ .neither →
    s.classify addr = .intent a → BurstOnStabilising s →
    let ax := s.axis a
    let old := if ax.intentValid = true then ax.intent else 0
    let merged := ofBytes (if lanes.high = true then highByte data else highByte old) (if lanes.low = true then lowByte data else lowByte old)
    let recorded := { ax with intent := merged, intentValid := true, outAddr := some addr, silentActive := false }
    ∃ t, exec (.intentWrite addr data lanes) s = .next t ∧
      t = { s with
        axes := withAxis s a (match ax.state with
          | .off | .held => recorded
          | .stabilising | .coasting => composedAxis s.page a s.severity.state (s.excitation a)
              { recorded with state := .stabilising, silenceTimer := silenceStart s.page a })
        cport := queued s addr data lanes (some a), faults := t.faults, report := t.report } ∧
      SameDeviceFlags s t ∧ t.isDirty (.intent a) = true ∧
      ((ax.state = .stabilising ∨ ax.state = .coasting) → t.isDirty (.output a) = true ∧ t.isDirty (.correction a) = true) ∧
      (ax.state = .coasting → t.isPending .axisState = true) ∧ (ax.silentActive = true → t.isPending .faultCleared = true) ∧
      exec (.controllerWrite addr data lanes) s = .next t

/-- A write of RING_CONSUMER: while the ring is enabled an index below N that moves q forward over published records, to p at the latest, is
taken at acceptance and the write passes; any other is discarded with STRAY_WRITE (R89, R96, R153). -/
def Obligations.ConsumerWriteMovesForwardToTheProducer : Prop :=
  ∀ (s : State) (data : Word) (lanes : Lanes), CportTakes s → lanes ≠ .neither →
    let q := s.ring.consumer
    let n := s.page.ringLength
    let old := BitVec.ofNat 16 q
    let q' := (ofBytes (if lanes.high = true then highByte data else highByte old)
      (if lanes.low = true then lowByte data else lowByte old)).toNat
    let valid := s.ringEnabled = true ∧ q' < n ∧ (q' + n - q) % n ≤ (s.ring.producer + n - q) % n
    (valid → ∃ t, exec (.ringConsumer data lanes) s = .next t ∧
      t = { s with ring := { s.ring with consumer := q' }, cport := queued s (addrAt s.reportPage 0x10) data lanes none,
                   report := t.report } ∧
      Reports s t [] (if q' = q then [] else [.ringConsumer])) ∧
    (¬ valid → ∃ t, exec (.ringConsumer data lanes) s = .next t ∧ t = { s with report := t.report } ∧ Reports s t [.strayWrite] [])

/-- Writes of the other classes: a profile word that hands nothing on is merged into the shadow, touched and queued; one of COMMAND or APPLY
whose merged word hands a command or an apply on, be it of one lane, does what the write of that merged word with both lanes does, and is
queued with the data and lanes it came with; a report word but RING_CONSUMER, a ring word and a guarded word of an active axis are discarded
with STRAY_WRITE and take no entry; a guarded word of an OFF axis and an unmatched word are queued unmarked (R88 to R90, R94 to R96, R159,
R161). -/
def Obligations.ControllerWriteActsByItsClass : Prop :=
  ∀ (s : State) (addr : Addr) (data : Word) (lanes : Lanes), CportTakes s → lanes ≠ .neither →
    let pass := exec (.controllerWrite addr data lanes) s = .next { s with cport := queued s addr data lanes none }
    let discard := ∃ t, exec (.controllerWrite addr data lanes) s = .next t ∧ t = { s with report := t.report } ∧
      Reports s t [.strayWrite] []
    (∀ w, s.classify addr = .profileWord w →
      let merged := ofBytes (if lanes.high = true then highByte data else highByte (s.profile.shadow.word w))
        (if lanes.low = true then lowByte data else lowByte (s.profile.shadow.word w))
      (w = 0 → highByte merged = 0) → (w = 1 → merged ≠ 0x00A5) →
        exec (.controllerWrite addr data lanes) s = .next { s with
          cport := queued s addr data lanes none
          profile := { s.profile with shadow := s.profile.shadow.setWord w merged,
                                      touched := s.profile.touched.set w.toNat true w.isLt } }) ∧
    (∀ w, s.classify addr = .profileWord w →
      let merged := ofBytes (if lanes.high = true then highByte data else highByte (s.profile.shadow.word w))
        (if lanes.low = true then lowByte data else lowByte (s.profile.shadow.word w))
      (w = 0 ∧ highByte merged ≠ 0) ∨ (w = 1 ∧ merged = 0x00A5) →
        ∃ u, exec (.controllerWrite (addrAt s.strapPage w) merged .both) s = .next u ∧
          u.cport.queue.getLast? = some { txn := .write addr merged .both, bind := none } ∧
          exec (.controllerWrite addr data lanes) s = .next { u with cport := { u.cport with
            queue := u.cport.queue.dropLast ++ [{ txn := .write addr data lanes, bind := none }] } }) ∧
    (∀ w, s.classify addr = .reportWord w → w ≠ 0x10 → discard) ∧
    (s.classify addr = .ringWord → discard) ∧
    (∀ a, s.classify addr = .guard a → (s.axis a).state ≠ .off → discard) ∧
    (∀ a, s.classify addr = .guard a → (s.axis a).state = .off → pass) ∧
    (s.classify addr = .unmatched → pass)

/-- A write that enables neither lane is accepted and dropped, with no effect on anything; a read's lanes carry no meaning for the part: the
word returned is the same whatever they are (R87). -/
def Obligations.LanelessWriteIsDropped : Prop :=
  (∀ (s : State) (addr : Addr) (data : Word), CportTakes s → exec (.controllerWrite addr data .neither) s = .next s) ∧
  ∀ (s : State) (t t' : MTxn) (bind : Option AxisId) (u u' : State), t.kind = .controllerRead bind → t'.kind = .controllerRead bind →
    t'.addr = t.addr → exec .readReturn { s with mport := { s.mport with busy := some t } } = .next u →
    exec .readReturn { s with mport := { s.mport with busy := some t' } } = .next u' → u'.cport.readData = u.cport.readData

/-- A read joins the queue as its newest entry, intent-bound where an INTENT window decides its address, and has no effect on any block;
from its acceptance the C-port accepts nothing further (R86, R93, R100). -/
def Obligations.ReadJoinsTheQueueAndClosesThePort : Prop :=
  ∀ (s : State) (addr : Addr) (lanes : Lanes), CportTakes s →
    ∃ t, exec (.controllerRead addr lanes) s = .next t ∧
      t = { s with cport := { s.cport with queue := s.cport.queue ++
        [{ txn := .read addr lanes, bind := match s.classify addr with
            | .intent a => some a
            | .profileWord _ | .reportWord _ | .ringWord | .guard _ | .unmatched => none }] } } ∧
      t.cportOpen = false

/-- While the queue is full, a read is in flight or a reset stands, what the arm controller offers is stretched and changes nothing else; the
grant that makes room in a full queue of writes accepts what was stretched; and at every grant of the head, return of a read and end of a
reset, whatever is stretched comes to what it would have come to had it been offered, oldest first, right after that (R99, R100, R108). That
several transactions may stand stretched, one behind the other, is the model's choice (assumption log 9). -/
def Obligations.ClosedPortStretchesTheOffer : Prop :=
  ∀ (s : State) (addr : Addr) (data : Word) (lanes : Lanes),
    (s.cportOpen = false →
      exec (.controllerWrite addr data lanes) s =
        .next { s with cport := { s.cport with offered := s.cport.offered ++ [.write addr data lanes] } } ∧
      exec (.controllerRead addr lanes) s =
        .next { s with cport := { s.cport with offered := s.cport.offered ++ [.read addr lanes] } }) ∧
    (∀ e rest, s.cport.queue = e :: rest → rest.length < 12 → (∀ x ∈ s.cport.queue, x.isRead = false) → s.resetHeld = false →
      s.mport.busy = none → (ownWaits s = false ∨ s.mport.starvation < 4) → s.cport.offered = [.write addr data lanes] →
      lanes ≠ .neither → s.classify addr = .unmatched →
      ∃ t, exec .queueHeadGrant s = .next t ∧
        t.cport = { s.cport with queue := rest ++ [{ txn := .write addr data lanes, bind := none }], offered := [] }) ∧
    (s.cportOpen = false → ∀ straps, ∀ c ∈ [Instr.queueHeadGrant, .readReturn, .eventPending, .resetEnd straps],
      ∃ u, exec c { s with cport := { s.cport with offered := [] } } = .next u ∧ exec c s = offeredInTurn s.cport.offered u)

/-! ### The M-port -/

/-- The grant of the queue head, made while the port is free and no own request waits or fewer than four heads have gone before: an
intent-bound write of an active axis, and an unbound write to an address that an INTENT window of an active axis matches, carries that
axis's output with both lanes, every other entry what it was accepted with; an intent-bound write to its active axis's output address
satisfies the axis's refresh and ends REFRESH_LATE for it; the starvation count rises by 1 while an own request waits and is 0 otherwise
(R55, R104 to R106). That a read is held with data 0 on the M-port is the model's choice (assumption log 28). -/
def Obligations.HeadGrantCarriesTheOutput : Prop :=
  ∀ (s : State) (e : QEntry) (rest : List QEntry), s.resetHeld = false → s.mport.busy = none → s.cport.queue = e :: rest →
    (ownWaits s = false ∨ s.mport.starvation < 4) → s.cport.offered = [] →
    let grant := fun (w : MTxn) (axes : Vector Axis 4) (t : State) => exec .queueHeadGrant s = .next t ∧ SameDeviceFlags s t ∧
      t = { s with cport := { s.cport with queue := rest }, axes := axes, faults := t.faults, report := t.report,
                   mport := { s.mport with busy := some w, starvation := if ownWaits s then s.mport.starvation + 1 else 0 } }
    (∀ addr lanes, e.txn = .read addr lanes →
      ∃ t, grant { kind := .controllerRead e.bind, addr := addr, data := 0, lanes := lanes } s.axes t) ∧
    (∀ addr data lanes, e.txn = .write addr data lanes →
      let carries := fun (d : Word) (l : Lanes) => ({ kind := .controllerWrite, addr := addr, data := d, lanes := l } : MTxn)
      (∀ a, e.bind = some a → (s.axis a).state = .off → ∃ t, grant (carries data lanes) s.axes t ∧ t.report = s.report) ∧
      (∀ a, e.bind = some a → (s.axis a).state ≠ .off → s.profileActive = true →
        ((s.axis a).outAddr = some addr → ∃ t, grant (carries (BitVec.ofInt 16 (s.axis a).output) .both)
          (withAxis s a (refreshCleared (s.axis a))) t ∧ ((s.axis a).lateActive = true → t.isPending .faultCleared = true)) ∧
        ((s.axis a).outAddr ≠ some addr →
          ∃ t, grant (carries (BitVec.ofInt 16 (s.axis a).output) .both) s.axes t ∧ t.report = s.report)) ∧
      (e.bind = none → (∀ a, (s.axis a).state ≠ .off → ¬ IntentCovers s a addr) →
        ∃ t, grant (carries data lanes) s.axes t ∧ t.report = s.report) ∧
      (∀ a, e.bind = none → (s.axis a).state ≠ .off → IntentCovers s a addr → (∀ b, IntentCovers s b addr → b = a) →
        ∃ t, grant (carries (BitVec.ofInt 16 (s.axis a).output) .both) s.axes t ∧ t.report = s.report))

/-- The grants of own requests, made in the order of their ranks while no queue head waits or four heads have gone before (R103, R104): the
refresh of the lowest pending axis carries its output to its output address, clears its mark and ends REFRESH_LATE; the boost word carries
the held value and takes it; the lowest dirty report word carries its content and is clean; the next staged record word goes to its slot, and
the count of words granted advances; and the sweep reads the word at its position. Each sets the starvation count to 0. Every report word's
place and content are those of 12.2 and 12.3 (R166). That the advance at a ring word's grant and the one at its ready (R152) are two counts is
the model's choice (assumption log 11), and so are the lanes and the data that a sweep read is held with (assumption log 28). -/
def Obligations.OwnGrantsFollowTheirRanks : Prop :=
  ∀ s : State, (∀ w : ReportWord, ReportLayout s w w.offset.val (s.reportWord w)) ∧ (OwnTurn s →
    (∀ a addr, (s.axis a).refreshPending = true → (∀ b, b < a → (s.axis b).refreshPending = false) → (s.axis a).outAddr = some addr →
      s.profileActive = true → ∃ t, exec .refreshGrant s = .next t ∧ SameDeviceFlags s t ∧
        t = { s with axes := withAxis s a (refreshCleared (s.axis a)), faults := t.faults, report := t.report,
                     mport := ownGranted s { kind := .refresh a, addr := addr, data := BitVec.ofInt 16 (s.axis a).output, lanes := .both } } ∧
        ((s.axis a).lateActive = true → t.isPending .faultCleared = true)) ∧
    (∀ v, refreshWaits s = false → s.severity.boostHeld = some v → exec .boostGrant s = .next { s with
      severity := { s.severity with boostHeld := none }
      mport := ownGranted s { kind := .boost, addr := s.page.boostAddr, data := v, lanes := .both } }) ∧
    (∀ w : ReportWord, refreshWaits s = false → s.severity.boostHeld = none → s.isDirty w = true →
      (∀ v : ReportWord, v.offset.val < w.offset.val → s.isDirty v = false) → ∃ t, exec .reportWordGrant s = .next t ∧
        t = { s with report := t.report, mport := ownGranted s { kind := .report, addr := addrAt s.reportPage (BitVec.ofNat 8 w.offset.val),
                                                                 data := s.reportWord w, lanes := .both } } ∧
        t.report.events = s.report.events ∧ ∀ v, t.isDirty v = (s.isDirty v && decide (v ≠ w))) ∧
    (∀ words k, refreshWaits s = false → s.severity.boostHeld = none → reportWaits s = false → s.ring.staged = some words →
      s.ring.granted = k.val → exec .ringWordGrant s = .next { s with
        ring := { s.ring with granted := k.val + 1 }
        mport := ownGranted s { kind := .ringWord true, lanes := .both, data := words[(k : Fin 12).val],
                                addr := BitVec.ofNat 18 (256 * s.page.ringBase + 12 * s.ring.slot + k.val) } }) ∧
    (∀ pos, refreshWaits s = false → s.severity.boostHeld = none → reportWaits s = false → ringWaits s = false →
      s.profile.sweep = .sweeping pos → exec .sweepReadGrant s = .next { s with
        mport := ownGranted s { kind := .sweepRead, addr := addrAt s.strapPage pos, data := 0, lanes := .both } }))

/-- The ready of a write frees the port and stores the enabled lanes of its data at its address, leaving every other byte of the RAM; the
ready of a staged record word advances the write position besides, and that of word 11 publishes the record: p moves on, the staging buffer
is empty, RING_PRODUCER is marked and RING_RECORD raised; the ready of a word whose record is no longer staged advances nothing (R102, R152,
R154). -/
def Obligations.WriteReadyReachesTheRam : Prop :=
  ∀ (s : State) (w : MTxn), s.mport.busy = some w → s.ram.wf = true →
    let stored := fun t : State => t.ram.readWord w.addr =
        ofBytes (if w.lanes.high = true then highByte w.data else highByte (s.ram.readWord w.addr))
          (if w.lanes.low = true then lowByte w.data else lowByte (s.ram.readWord w.addr)) ∧
      (∀ k, k ≠ 2 * w.addr.toNat → k ≠ 2 * w.addr.toNat + 1 → t.ram.readByte k = s.ram.readByte k)
    (w.kind = .controllerWrite ∨ (∃ a, w.kind = .refresh a) ∨ w.kind = .boost ∨ w.kind = .report →
      ∃ t, exec .writeComplete s = .next t ∧ stored t ∧ t = { s with ram := t.ram, mport := { s.mport with busy := none } }) ∧
    (w.kind = .ringWord false ∨ (w.kind = .ringWord true ∧ s.ring.staged = none) →
      ∃ t, exec .ringWordDone s = .next t ∧ stored t ∧ t = { s with ram := t.ram, mport := { s.mport with busy := none } }) ∧
    (w.kind = .ringWord true → s.ring.staged ≠ none →
      (s.ring.position ≠ 11 → ∃ t, exec .ringWordDone s = .next t ∧ stored t ∧
        t = { s with ram := t.ram, mport := { s.mport with busy := none },
                     ring := { s.ring with position := s.ring.position + 1 } }) ∧
      (s.ring.position = 11 → ∃ t, exec .ringWordDone s = .next t ∧ stored t ∧
        t = { s with ram := t.ram, mport := { s.mport with busy := none }, report := t.report,
                     ring := { s.ring with producer := (s.ring.producer + 1) % s.page.ringLength, staged := none,
                                           position := t.ring.position } } ∧
        Reports s t [.ringRecord] [.ringProducer]))

/-- The ready of a sweep read places the word in the shadow unless the word is touched, and the position advances; at word 0xFF the sweep is
DONE, SWEEP_DONE is raised and PROFILE_STATE marked, and where the shadow's APPLY word holds the apply code the start-up apply follows at
once, judged as any apply: accepted, every block takes the profile up as at any apply; refused, it shows the first test that fails and leaves
the profile EMPTY and everything else as it was (R157 to R160). -/
def Obligations.SweepReadFillsTheShadow : Prop :=
  ∀ (s : State) (w : MTxn) (pos : Offset), s.mport.busy = some w → w.kind = .sweepRead → s.profile.sweep = .sweeping pos →
    let shadow := if s.profile.touched[pos.toNat]'pos.isLt = true then s.profile.shadow
      else s.profile.shadow.setWord pos (s.ram.readWord w.addr)
    (pos ≠ 0xFF → exec .sweepReadDone s = .next { s with
      mport := { s.mport with busy := none }
      profile := { s.profile with shadow := shadow, sweep := .sweeping (pos + 1) } }) ∧
    (pos = 0xFF → shadow.word 1 ≠ 0x00A5 → ∃ t, exec .sweepReadDone s = .next t ∧
      t = { s with mport := { s.mport with busy := none }, profile := { s.profile with shadow := shadow, sweep := .done },
                   report := t.report } ∧
      Reports s t [.sweepDone] [.profileState]) ∧
    (pos = 0xFF → shadow.word 1 = 0x00A5 → ∃ t, exec .sweepReadDone s = .next t ∧ t.profile.sweep = .done ∧ t.profile.shadow = shadow ∧
      t.isPending .sweepDone = true ∧ t.isPending .applyDone = true ∧ t.isDirty .profileState = true ∧ t.isDirty .applyResult = true ∧
      (s.profile.active = none →
        let shown := fun (r : ApplyResult) (o : Offset) => { s.profile with shadow := shadow, sweep := .done, applyResult := r, applyOffset := o }
        let refusal : Option (ApplyResult × Offset) :=
          if shadow.rangeFault s.strapPage ≠ none then some (.range, (shadow.rangeFault s.strapPage).getD 0)
          else if shadow.priorityOk = false then some (.priority, 0)
          else if shadow.policyOk = false then some (.policy, 0)
          else none
        (refusal = none → t.profile = { shown .applied 0 with active := some shadow } ∧
          TakenUp { s with mport := { s.mport with busy := none } } shadow t) ∧
        (∀ r, refusal = some r →
          t = { s with mport := { s.mport with busy := none }, profile := shown r.1 r.2, report := t.report } ∧
          Reports s t [.sweepDone, .applyDone] [.profileState, .applyResult])))

/-- The return of a read: the axis's output where the entry is intent-bound, the axis's read-back option set, the axis active and the
address its output address, else the RAM's word; the port is free, and nothing else changes, but that the return of EVENT_PENDING's own word
clears from the pending set each event set in it and marks the word (R93, R107, R164). That the rows READ_RETURN and EVENT_PENDING both
complete the read of EVENT_PENDING, with one effect, is the model's choice (assumption log 22). -/
def Obligations.ReadReturnsAndClearsEvents : Prop :=
  ∀ (s : State) (w : MTxn) (bind : Option AxisId), s.mport.busy = some w → w.kind = .controllerRead bind → s.cport.offered = [] →
    let isBack := ∃ a, bind = some a ∧ s.page.readback a = true ∧ (s.axis a).state ≠ .off ∧ (s.axis a).outAddr = some w.addr
    ∃ t word, exec .readReturn s = .next t ∧
      (∀ a, bind = some a → isBack → word = BitVec.ofInt 16 (s.axis a).output) ∧ (¬ isBack → word = s.ram.readWord w.addr) ∧
      t = { s with mport := { s.mport with busy := none }, cport := { s.cport with readData := some word }, report := t.report } ∧
      (w.addr ≠ addrAt s.reportPage 0x02 → t.report = s.report) ∧
      (w.addr = addrAt s.reportPage 0x02 → exec .eventPending s = .next t ∧
        (∀ e, t.isPending e = (s.isPending e && !word.getLsbD e.bit)) ∧
        ∀ v, t.isDirty v = (s.isDirty v || decide (v = .eventPending)))

/-! ### What every step keeps -/

/-- The RAM keeps its canonical form (the model's own: assumption log 3), and the part dirties no report word but those it keeps (R162,
R166). -/
def Obligations.RamStaysCanonicalAndOnlyKeptWordsDirty : Prop :=
  (∀ s t : State, s.ram.wf = true → step s = .next t → t.ram.wf = true) ∧
    ∀ s t : State, DirtyInOrder s → step s = .next t → DirtyInOrder t

/-- While the timecode is VALID it is in range at the rate in force, and so is a pending set (R145, R146, R148). -/
def Obligations.TimecodeStaysInRange : Prop :=
  ∀ s t : State, TimecodeInRange s → step s = .next t → TimecodeInRange t

/-- The controller queue never holds more than 12 entries, a read only as its newest, and the starvation count stays from 0 to 4; and what is
stretched is stretched because the C-port is closed (R99 to R101, R104). -/
def Obligations.QueueStaysInBounds : Prop :=
  (∀ s t : State, QueueInBounds s → step s = .next t → QueueInBounds t) ∧
    ∀ s t : State, StretchedInOrder s → step s = .next t → StretchedInOrder t

/-- An axis is HELD exactly when its cause set is not empty (R69). -/
def Obligations.HeldExactlyWhileCaused : Prop :=
  ∀ s t : State, HeldIffCaused s → step s = .next t → HeldIffCaused t

/-- No angle ever exceeds 2,147,418,112 in magnitude: every step keeps the bound, and it holds after each reset, where every angle is 0
(R28). -/
def Obligations.AnglesStayBounded : Prop :=
  (∀ s t : State, ThetaBounded s → step s = .next t → ThetaBounded t) ∧
    ∀ s t : State, exec .powerOnReset s = .next t ∨ exec .lineReset s = .next t → ThetaBounded t ∧ ∀ a, (t.axis a).theta = 0

/-- The output of an active axis lies within its soft limits (R45): every step keeps it so; the limits do not change while the axis is
active, and in HELD the output is frozen. -/
def Obligations.OutputsStayWithinTheSoftLimits : Prop :=
  (∀ s t : State, OutputsInLimits s → step s = .next t → OutputsInLimits t) ∧
  ∀ (c : Instr) (s t : State) (a : AxisId), OutputsInLimits s → exec c s = .next t → s.cport.offered = [] → (s.axis a).state ≠ .off →
    (t.axis a).state ≠ .off →
    t.page.softLo a = s.page.softLo a ∧ t.page.softHi a = s.page.softHi a ∧
      ((s.axis a).state = .held → (t.axis a).state = .held → (t.axis a).output = (s.axis a).output ∧
        (t.axis a).correction = (s.axis a).correction ∧ (t.axis a).rate = (s.axis a).rate ∧ (t.axis a).limit = (s.axis a).limit)

/-- Each update of an active axis's output, a release's among them, differs from the output just before it by no more than the step limit in
force at that update; the value set at START is no such update (R46). One command is one update: nothing is stretched before it. -/
def Obligations.UpdatesStayWithinTheStepLimit : Prop :=
  ∀ (c : Instr) (s t : State) (a : AxisId), OutputsInLimits s → s.cport.offered = [] → exec c s = .next t →
    (s.axis a).state ≠ .off → (t.axis a).state ≠ .off →
    ((t.axis a).output - (s.axis a).output).natAbs ≤ (s.page.stepLimit a s.severity.state).natAbs

/-- A source is selected only while it is LIVE and the profile is ACTIVE, and none is left unselected that the profile would take;
SOURCE_LOST and SOURCE_FALLBACK stand as the selection and the primary give them, and no class is active while the profile is EMPTY (R12 to
R15, R131, R132). -/
def Obligations.SelectionAndItsClassesStayInOrder : Prop :=
  (∀ s t : State, SelectionInOrder s → step s = .next t → SelectionInOrder t) ∧
    ∀ s t : State, SourceClassesInOrder s → step s = .next t → SourceClassesInOrder t

/-- The headline stays the first active class of the priority list, and the STAT pattern that of the profile state and the headline's
policy; under a priority list that names each class once the headline is NONE exactly when no class is active; and an active profile is always
one that passes the range, priority and policy tests (R141, R142, R159). -/
def Obligations.HeadlineAndStatFollowTheFlags : Prop :=
  (∀ s t : State, HeadlineInOrder s → step s = .next t → HeadlineInOrder t) ∧
  (∀ s t : State, ProfileTested s → step s = .next t → ProfileTested t) ∧
  ∀ (s : State) (p : Page), HeadlineInOrder s → s.profile.active = some p → p.priorityOk = true →
    (s.faults.headline = none ↔ ∀ c ∈ FaultClass.all, s.classActive c = false) ∧
    (∀ c, s.faults.headline = some c → s.classActive c = true ∧
      ∃ before after, p.priorityFields = before ++ c.number :: after ∧
        ∀ d ∈ FaultClass.all, d.number ∈ before → s.classActive d = false) ∧
    (s.faults.headline = none → s.faults.pattern = .steady) ∧
    (∀ c, s.faults.headline = some c → s.faults.pattern = if p.policy c = .continue then .slowBlink else .fastBlink)

/-- A burst in flight runs on a STABILISING axis while a source is selected, and with none in flight the current x is 0; a ZERO capture runs
on the selected source, and its result shows RUNNING exactly while it runs (R33 to R38, R126 to R128). -/
def Obligations.BurstAndCaptureStayInOrder : Prop :=
  (∀ s t : State, BurstOnStabilising s → step s = .next t → BurstOnStabilising t) ∧
    ∀ s t : State, CaptureInOrder s → step s = .next t → CaptureInOrder t

/-- The ring's indices stay below N, a staged record is of slot p, and a publication never makes p equal to q; of a staged record one word more
is granted than written exactly while one is in progress (R103, R150 to R153; the two counts are the model's: assumption log 11). -/
def Obligations.RingIndicesStayInOrder : Prop :=
  (∀ s t : State, RingInOrder s → step s = .next t → RingInOrder t) ∧
  (∀ s t : State, StagingInOrder s → step s = .next t → StagingInOrder t) ∧
    ∀ s t : State, RingInOrder s → s.ringEnabled = true → exec .ringWordDone s = .next t → t.ring.producer ≠ s.ring.producer →
      t.ring.producer ≠ t.ring.consumer ∧ t.ring.staged = none

/-- The addresses of setpoints, windows and the part's own words stay apart (R62, R85, R97). -/
def Obligations.RoutesStayInOrder : Prop :=
  ∀ s t : State, RoutesInOrder s → step s = .next t → RoutesInOrder t

/-- While an axis is active, every write that begins on the M-port to an address that an INTENT window of that axis matches carries the
axis's output as it stands at the grant, with both lanes (R106). -/
def Obligations.SetpointWritesCarryTheOutput : Prop :=
  ∀ (c : Instr) (s t : State) (w : MTxn) (a : AxisId), RoutesInOrder s → exec c s = .next t → s.mport.busy = none →
    t.mport.busy = some w → w.isWrite = true → (s.axis a).state ≠ .off → IntentCovers s a w.addr →
    w.data = BitVec.ofInt 16 (s.axis a).output ∧ w.lanes = .both

/-- The state a run begins in is that of the power-on reset, with no command waiting (that a run begins there is the model's choice:
assumption log 4), and each condition that every step keeps holds in it. -/
def Obligations.ResetStateIsThatOfThePowerOnReset : Prop :=
  AtReset State.reset ∧ State.reset.bias = ⟨⟨0, 0, 0⟩, ⟨0, 0, 0⟩⟩ ∧ State.reset.timecode.time = ⟨0, 0, 0, 0⟩ ∧
    State.reset.timecode.valid = false ∧ State.reset.timecode.rate = .fps30 ∧ State.reset.pending = [] ∧
    State.reset.ram.wf = true ∧ TimecodeInRange State.reset ∧ QueueInBounds State.reset ∧ HeldIffCaused State.reset ∧
    ThetaBounded State.reset ∧ OutputsInLimits State.reset ∧ SelectionInOrder State.reset ∧ SourceClassesInOrder State.reset ∧
    HeadlineInOrder State.reset ∧ CaptureInOrder State.reset ∧ BurstOnStabilising State.reset ∧ RingInOrder State.reset ∧
    StagingInOrder State.reset ∧ ProfileTested State.reset ∧ StretchedInOrder State.reset ∧ DirtyInOrder State.reset ∧ RoutesInOrder State.reset

/-- ATTN is asserted exactly when some event is pending and enabled; while the profile is EMPTY the enabled events are COMMAND_DONE,
APPLY_DONE and SWEEP_DONE, while it is ACTIVE those of its EVENT_ENABLE word; raising an event makes it pending and changes no other, and
one already pending changes nothing; both resets empty the pending set and deassert ATTN (R163). -/
def Obligations.AttnFollowsPendingAndEnabled : Prop :=
  ∀ s : State,
    (s.profile.active = none → (s.attn = true ↔ ∃ e ∈ [Event.commandDone, .applyDone, .sweepDone], s.isPending e = true)) ∧
    (∀ p, s.profile.active = some p → (s.attn = true ↔ ∃ e : Event, s.isPending e = true ∧ (p.word 0x03).getLsbD e.bit = true)) ∧
    (∀ e, (s.raise e).isPending e = true ∧ (∀ d, d ≠ e → (s.raise e).isPending d = s.isPending d) ∧
      (s.isPending e = true → s.raise e = s)) ∧
    ∀ t : State, exec .powerOnReset s = .next t ∨ exec .lineReset s = .next t → t.attn = false ∧ ∀ e, t.isPending e = false

end Obligations
end

