-- ==== Sys2Proof/Laws/State.lean ====
section
/-! SUPPORT. The small lemmas of the state's own updates: one for each field and update, and what each access reads after each update. -/

namespace Sys2Proof.Machine

/-! ### Sources -/

@[simp] theorem PerSource.get_set_same {α : Type} (p : PerSource α) (src : Source) (v : α) : (p.set src v).get src = v := by
  cases src <;> rfl

theorem PerSource.get_set_ne {α : Type} (p : PerSource α) {src other : Source} (v : α) (h : other ≠ src) :
    (p.set src v).get other = p.get other := by
  cases src <;> cases other <;> first | rfl | exact absurd rfl h

@[simp] theorem otherSource_ne (src : Source) : otherSource src ≠ src := by cases src <;> decide

@[simp] theorem otherSource_other (src : Source) : otherSource (otherSource src) = src := by cases src <;> rfl

/-- What `State.setLink` leaves as it was. -/
@[simp] theorem State.setLink_frame (s : State) (src : Source) (l : Link) :
    (s.setLink src l).pending = s.pending ∧ (s.setLink src l).resetHeld = s.resetHeld ∧
    (s.setLink src l).strapPage = s.strapPage ∧ (s.setLink src l).selected = s.selected ∧ (s.setLink src l).bias = s.bias ∧
    (s.setLink src l).capture = s.capture ∧ (s.setLink src l).zeroResult = s.zeroResult ∧ (s.setLink src l).axes = s.axes ∧
    (s.setLink src l).cport = s.cport ∧ (s.setLink src l).mport = s.mport ∧ (s.setLink src l).severity = s.severity ∧
    (s.setLink src l).burst = s.burst ∧ (s.setLink src l).exciteResult = s.exciteResult ∧
    (s.setLink src l).faults = s.faults ∧ (s.setLink src l).timecode = s.timecode ∧ (s.setLink src l).ring = s.ring ∧
    (s.setLink src l).profile = s.profile ∧ (s.setLink src l).report = s.report ∧ (s.setLink src l).ram = s.ram ∧
    (s.setLink src l).page = s.page ∧ (s.setLink src l).profileActive = s.profileActive := by
  exact ⟨rfl, rfl, rfl, rfl, rfl, rfl, rfl, rfl, rfl, rfl, rfl, rfl, rfl, rfl, rfl, rfl, rfl, rfl, rfl, rfl, rfl⟩

/-- What `State.setAxis` leaves as it was. -/
@[simp] theorem State.setAxis_frame (s : State) (a : AxisId) (ax : Axis) :
    (s.setAxis a ax).pending = s.pending ∧ (s.setAxis a ax).resetHeld = s.resetHeld ∧
    (s.setAxis a ax).strapPage = s.strapPage ∧ (s.setAxis a ax).links = s.links ∧ (s.setAxis a ax).selected = s.selected ∧
    (s.setAxis a ax).bias = s.bias ∧ (s.setAxis a ax).capture = s.capture ∧ (s.setAxis a ax).zeroResult = s.zeroResult ∧
    (s.setAxis a ax).cport = s.cport ∧ (s.setAxis a ax).mport = s.mport ∧ (s.setAxis a ax).severity = s.severity ∧
    (s.setAxis a ax).burst = s.burst ∧ (s.setAxis a ax).exciteResult = s.exciteResult ∧ (s.setAxis a ax).faults = s.faults ∧
    (s.setAxis a ax).timecode = s.timecode ∧ (s.setAxis a ax).ring = s.ring ∧ (s.setAxis a ax).profile = s.profile ∧
    (s.setAxis a ax).report = s.report ∧ (s.setAxis a ax).ram = s.ram ∧ (s.setAxis a ax).page = s.page ∧
    (s.setAxis a ax).profileActive = s.profileActive := by
  exact ⟨rfl, rfl, rfl, rfl, rfl, rfl, rfl, rfl, rfl, rfl, rfl, rfl, rfl, rfl, rfl, rfl, rfl, rfl, rfl, rfl, rfl⟩

/-- What `State.mark` leaves as it was. -/
@[simp] theorem State.mark_frame (s : State) (w : ReportWord) :
    (s.mark w).pending = s.pending ∧ (s.mark w).resetHeld = s.resetHeld ∧ (s.mark w).strapPage = s.strapPage ∧
    (s.mark w).links = s.links ∧ (s.mark w).selected = s.selected ∧ (s.mark w).bias = s.bias ∧
    (s.mark w).capture = s.capture ∧ (s.mark w).zeroResult = s.zeroResult ∧ (s.mark w).axes = s.axes ∧
    (s.mark w).cport = s.cport ∧ (s.mark w).mport = s.mport ∧ (s.mark w).severity = s.severity ∧ (s.mark w).burst = s.burst ∧
    (s.mark w).exciteResult = s.exciteResult ∧ (s.mark w).faults = s.faults ∧ (s.mark w).timecode = s.timecode ∧
    (s.mark w).ring = s.ring ∧ (s.mark w).profile = s.profile ∧ (s.mark w).ram = s.ram ∧ (s.mark w).page = s.page ∧
    (s.mark w).profileActive = s.profileActive := by
  exact ⟨rfl, rfl, rfl, rfl, rfl, rfl, rfl, rfl, rfl, rfl, rfl, rfl, rfl, rfl, rfl, rfl, rfl, rfl, rfl, rfl, rfl⟩

/-- What `State.unmark` leaves as it was. -/
@[simp] theorem State.unmark_frame (s : State) (w : ReportWord) :
    (s.unmark w).pending = s.pending ∧ (s.unmark w).resetHeld = s.resetHeld ∧ (s.unmark w).strapPage = s.strapPage ∧
    (s.unmark w).links = s.links ∧ (s.unmark w).selected = s.selected ∧ (s.unmark w).bias = s.bias ∧
    (s.unmark w).capture = s.capture ∧ (s.unmark w).zeroResult = s.zeroResult ∧ (s.unmark w).axes = s.axes ∧
    (s.unmark w).cport = s.cport ∧ (s.unmark w).mport = s.mport ∧ (s.unmark w).severity = s.severity ∧
    (s.unmark w).burst = s.burst ∧ (s.unmark w).exciteResult = s.exciteResult ∧ (s.unmark w).faults = s.faults ∧
    (s.unmark w).timecode = s.timecode ∧ (s.unmark w).ring = s.ring ∧ (s.unmark w).profile = s.profile ∧
    (s.unmark w).ram = s.ram ∧ (s.unmark w).page = s.page ∧ (s.unmark w).profileActive = s.profileActive := by
  exact ⟨rfl, rfl, rfl, rfl, rfl, rfl, rfl, rfl, rfl, rfl, rfl, rfl, rfl, rfl, rfl, rfl, rfl, rfl, rfl, rfl, rfl⟩

/-- What `State.markIf` leaves as it was. -/
@[simp] theorem State.markIf_frame (s : State) (c : Bool) (w : ReportWord) :
    (s.markIf c w).pending = s.pending ∧ (s.markIf c w).resetHeld = s.resetHeld ∧ (s.markIf c w).strapPage = s.strapPage ∧
    (s.markIf c w).links = s.links ∧ (s.markIf c w).selected = s.selected ∧ (s.markIf c w).bias = s.bias ∧
    (s.markIf c w).capture = s.capture ∧ (s.markIf c w).zeroResult = s.zeroResult ∧ (s.markIf c w).axes = s.axes ∧
    (s.markIf c w).cport = s.cport ∧ (s.markIf c w).mport = s.mport ∧ (s.markIf c w).severity = s.severity ∧
    (s.markIf c w).burst = s.burst ∧ (s.markIf c w).exciteResult = s.exciteResult ∧ (s.markIf c w).faults = s.faults ∧
    (s.markIf c w).timecode = s.timecode ∧ (s.markIf c w).ring = s.ring ∧ (s.markIf c w).profile = s.profile ∧
    (s.markIf c w).ram = s.ram ∧ (s.markIf c w).page = s.page ∧ (s.markIf c w).profileActive = s.profileActive := by
  cases c <;> simp [State.markIf]

/-- What `State.raise` leaves as it was. -/
@[simp] theorem State.raise_frame (s : State) (e : Event) :
    (s.raise e).pending = s.pending ∧ (s.raise e).resetHeld = s.resetHeld ∧ (s.raise e).strapPage = s.strapPage ∧
    (s.raise e).links = s.links ∧ (s.raise e).selected = s.selected ∧ (s.raise e).bias = s.bias ∧
    (s.raise e).capture = s.capture ∧ (s.raise e).zeroResult = s.zeroResult ∧ (s.raise e).axes = s.axes ∧
    (s.raise e).cport = s.cport ∧ (s.raise e).mport = s.mport ∧ (s.raise e).severity = s.severity ∧
    (s.raise e).burst = s.burst ∧ (s.raise e).exciteResult = s.exciteResult ∧ (s.raise e).faults = s.faults ∧
    (s.raise e).timecode = s.timecode ∧ (s.raise e).ring = s.ring ∧ (s.raise e).profile = s.profile ∧
    (s.raise e).ram = s.ram ∧ (s.raise e).page = s.page ∧ (s.raise e).profileActive = s.profileActive := by
  unfold State.raise; split <;> simp [State.page, State.profileActive]

/-- What `State.clearEvents` leaves as it was. -/
@[simp] theorem State.clearEvents_frame (s : State) (w : Word) :
    (s.clearEvents w).pending = s.pending ∧ (s.clearEvents w).resetHeld = s.resetHeld ∧
    (s.clearEvents w).strapPage = s.strapPage ∧ (s.clearEvents w).links = s.links ∧ (s.clearEvents w).selected = s.selected ∧
    (s.clearEvents w).bias = s.bias ∧ (s.clearEvents w).capture = s.capture ∧ (s.clearEvents w).zeroResult = s.zeroResult ∧
    (s.clearEvents w).axes = s.axes ∧ (s.clearEvents w).cport = s.cport ∧ (s.clearEvents w).mport = s.mport ∧
    (s.clearEvents w).severity = s.severity ∧ (s.clearEvents w).burst = s.burst ∧
    (s.clearEvents w).exciteResult = s.exciteResult ∧ (s.clearEvents w).faults = s.faults ∧
    (s.clearEvents w).timecode = s.timecode ∧ (s.clearEvents w).ring = s.ring ∧ (s.clearEvents w).profile = s.profile ∧
    (s.clearEvents w).ram = s.ram ∧ (s.clearEvents w).page = s.page ∧ (s.clearEvents w).profileActive = s.profileActive := by
  simp [State.clearEvents, State.page, State.profileActive]

/-! ### Reading a record after it is written -/

@[simp] theorem State.link_setLink_same (s : State) (src : Source) (l : Link) : (s.setLink src l).link src = l := by
  simp [State.link, State.setLink]

theorem State.link_setLink_ne (s : State) {src other : Source} (l : Link) (h : other ≠ src) :
    (s.setLink src l).link other = s.link other := PerSource.get_set_ne _ _ h

@[simp] theorem State.axis_setAxis_same (s : State) (a : AxisId) (ax : Axis) : (s.setAxis a ax).axis a = ax := by
  simp [State.axis, State.setAxis, Vector.get_eq_getElem]

theorem State.axis_setAxis_ne (s : State) {a b : AxisId} (ax : Axis) (h : b ≠ a) : (s.setAxis a ax).axis b = s.axis b := by
  have h' : a.val ≠ b.val := fun e => h (Fin.ext e.symm)
  simp [State.axis, State.setAxis, Vector.get_eq_getElem, Vector.getElem_set_ne _ _ h']

theorem State.axis_setAxis (s : State) (a b : AxisId) (ax : Axis) : (s.setAxis a ax).axis b = if b = a then ax else s.axis b := by
  split
  · subst b; simp
  · exact s.axis_setAxis_ne ax ‹_›

/-- Two states with the same axes have the same record of each axis. -/
theorem State.axis_congr {s t : State} (h : t.axes = s.axes) (a : AxisId) : t.axis a = s.axis a := by simp [State.axis, h]

/-- Two states with the same links have the same record of each source. -/
theorem State.link_congr {s t : State} (h : t.links = s.links) (src : Source) : t.link src = s.link src := by simp [State.link, h]

@[simp] theorem State.axis_mark (s : State) (w : ReportWord) (a : AxisId) : (s.mark w).axis a = s.axis a := rfl
@[simp] theorem State.axis_unmark (s : State) (w : ReportWord) (a : AxisId) : (s.unmark w).axis a = s.axis a := rfl
@[simp] theorem State.axis_markIf (s : State) (c : Bool) (w : ReportWord) (a : AxisId) : (s.markIf c w).axis a = s.axis a :=
  State.axis_congr (by simp) a
@[simp] theorem State.axis_raise (s : State) (e : Event) (a : AxisId) : (s.raise e).axis a = s.axis a := State.axis_congr (by simp) a
@[simp] theorem State.axis_setLink (s : State) (src : Source) (l : Link) (a : AxisId) : (s.setLink src l).axis a = s.axis a := rfl
@[simp] theorem State.link_mark (s : State) (w : ReportWord) (src : Source) : (s.mark w).link src = s.link src := rfl
@[simp] theorem State.link_raise (s : State) (e : Event) (src : Source) : (s.raise e).link src = s.link src :=
  State.link_congr (by simp) src
@[simp] theorem State.link_setAxis (s : State) (a : AxisId) (ax : Axis) (src : Source) : (s.setAxis a ax).link src = s.link src := rfl

/-! ### Dirty marks and pending events -/

/-- Distinct report words have distinct offsets. -/
theorem ReportWord.offset_injective {v w : ReportWord} (h : v.offset.val = w.offset.val) : v = w := by
  have hm : ∀ u : ReportWord, u ∈ ReportWord.all := by
    intro u
    rcases u with _ | _ | _ | _ | _ | _ | _ | _ | _ | _ | _ | _ | _ | _ | _ | _ | _ | x | x | x | x | x | x | x
    all_goals first
      | decide
      | (cases x <;> decide)
      | (revert x; decide)
  have hp : ∀ u ∈ ReportWord.all, ∀ u' ∈ ReportWord.all, u.offset.val = u'.offset.val → u = u' := by decide
  exact hp v (hm v) w (hm w) h

/-- Marking a word makes it dirty and leaves the other marks. -/
theorem State.isDirty_mark (s : State) (w v : ReportWord) : (s.mark w).isDirty v = (decide (v = w) || s.isDirty v) := by
  by_cases h : v = w
  · subst v; simp [State.isDirty, State.mark]
  · have h' : w.offset.val ≠ v.offset.val := fun e => h (ReportWord.offset_injective e.symm)
    simp [State.isDirty, State.mark, h, Vector.getElem_set_ne _ _ h']

/-- Clearing a word's mark leaves the other marks. -/
theorem State.isDirty_unmark (s : State) (w v : ReportWord) : (s.unmark w).isDirty v = (!decide (v = w) && s.isDirty v) := by
  by_cases h : v = w
  · subst v; simp [State.isDirty, State.unmark]
  · have h' : w.offset.val ≠ v.offset.val := fun e => h (ReportWord.offset_injective e.symm)
    simp [State.isDirty, State.unmark, h, Vector.getElem_set_ne _ _ h']

@[simp] theorem State.mark_events (s : State) (w : ReportWord) : (s.mark w).report.events = s.report.events := rfl
@[simp] theorem State.unmark_events (s : State) (w : ReportWord) : (s.unmark w).report.events = s.report.events := rfl

/-- The pending set after a raise holds the event as well. -/
theorem State.raise_events (s : State) (e : Event) : (s.raise e).report.events = s.report.events ||| e.mask := by
  unfold State.raise
  split
  · rename_i h
    apply BitVec.eq_of_getLsbD_eq
    intro i hi
    simp only [State.isPending] at h
    by_cases hie : i = e.bit
    · subst hie; simp [h]
    · have : e.mask.getLsbD i = false := by
        cases e <;> simp only [Event.mask, Event.bit] at * <;> (revert hie; revert i; decide)
      simp [this]
  · rfl

/-- A raise marks EVENT_PENDING only, and only where the event was not pending (R162, R163). -/
theorem State.isDirty_raise (s : State) (e : Event) (v : ReportWord) :
    (s.raise e).isDirty v = ((decide (v = .eventPending) && !s.isPending e) || s.isDirty v) := by
  unfold State.raise
  split
  · simp [*]
  · rename_i h
    rw [State.isDirty_mark]
    simp [State.isDirty, h]

end Sys2Proof.Machine
end

