-- ==== Sys2Proof/Laws/Faults.lean ====
section
/-! SUPPORT. What the Fault Monitor's operations leave as it was. -/

namespace Sys2Proof.Machine

/-- What `State.judgeStat` leaves as it was. -/
@[simp] theorem State.judgeStat_frame (s : State)  :
    (s.judgeStat).pending = s.pending ∧ (s.judgeStat).resetHeld = s.resetHeld ∧ (s.judgeStat).strapPage = s.strapPage ∧
    (s.judgeStat).links = s.links ∧ (s.judgeStat).selected = s.selected ∧ (s.judgeStat).bias = s.bias ∧
    (s.judgeStat).capture = s.capture ∧ (s.judgeStat).zeroResult = s.zeroResult ∧ (s.judgeStat).axes = s.axes ∧
    (s.judgeStat).cport = s.cport ∧ (s.judgeStat).mport = s.mport ∧ (s.judgeStat).severity = s.severity ∧
    (s.judgeStat).burst = s.burst ∧ (s.judgeStat).exciteResult = s.exciteResult ∧ (s.judgeStat).timecode = s.timecode ∧
    (s.judgeStat).ring = s.ring ∧ (s.judgeStat).profile = s.profile ∧ (s.judgeStat).report = s.report ∧
    (s.judgeStat).ram = s.ram ∧ (s.judgeStat).page = s.page ∧ (s.judgeStat).profileActive = s.profileActive := by
  unfold State.judgeStat; split <;> simp [State.page, State.profileActive]

/-- What `State.judgeHeadline` leaves as it was. -/
@[simp] theorem State.judgeHeadline_frame (s : State)  :
    (s.judgeHeadline).pending = s.pending ∧ (s.judgeHeadline).resetHeld = s.resetHeld ∧
    (s.judgeHeadline).strapPage = s.strapPage ∧ (s.judgeHeadline).links = s.links ∧ (s.judgeHeadline).selected = s.selected ∧
    (s.judgeHeadline).bias = s.bias ∧ (s.judgeHeadline).capture = s.capture ∧ (s.judgeHeadline).zeroResult = s.zeroResult ∧
    (s.judgeHeadline).axes = s.axes ∧ (s.judgeHeadline).cport = s.cport ∧ (s.judgeHeadline).mport = s.mport ∧
    (s.judgeHeadline).severity = s.severity ∧ (s.judgeHeadline).burst = s.burst ∧
    (s.judgeHeadline).exciteResult = s.exciteResult ∧ (s.judgeHeadline).timecode = s.timecode ∧
    (s.judgeHeadline).ring = s.ring ∧ (s.judgeHeadline).profile = s.profile ∧ (s.judgeHeadline).ram = s.ram ∧
    (s.judgeHeadline).page = s.page ∧ (s.judgeHeadline).profileActive = s.profileActive := by
  unfold State.judgeHeadline; split <;> simp [State.page, State.profileActive]

/-- What `State.reportFlag` leaves as it was. -/
@[simp] theorem State.reportFlag_frame (s : State) (old new : Bool) :
    (s.reportFlag old new).pending = s.pending ∧ (s.reportFlag old new).resetHeld = s.resetHeld ∧
    (s.reportFlag old new).strapPage = s.strapPage ∧ (s.reportFlag old new).links = s.links ∧
    (s.reportFlag old new).selected = s.selected ∧ (s.reportFlag old new).bias = s.bias ∧
    (s.reportFlag old new).capture = s.capture ∧ (s.reportFlag old new).zeroResult = s.zeroResult ∧
    (s.reportFlag old new).axes = s.axes ∧ (s.reportFlag old new).cport = s.cport ∧ (s.reportFlag old new).mport = s.mport ∧
    (s.reportFlag old new).severity = s.severity ∧ (s.reportFlag old new).burst = s.burst ∧
    (s.reportFlag old new).exciteResult = s.exciteResult ∧ (s.reportFlag old new).faults = s.faults ∧
    (s.reportFlag old new).timecode = s.timecode ∧ (s.reportFlag old new).ring = s.ring ∧
    (s.reportFlag old new).profile = s.profile ∧ (s.reportFlag old new).ram = s.ram ∧ (s.reportFlag old new).page = s.page ∧
    (s.reportFlag old new).profileActive = s.profileActive := by
  unfold State.reportFlag; split <;> simp

/-- What `State.setAxisFlag` leaves as it was. -/
@[simp] theorem State.setAxisFlag_frame (s : State) (c : AxisClass) (a : AxisId) (on : Bool) :
    (s.setAxisFlag c a on).pending = s.pending ∧ (s.setAxisFlag c a on).resetHeld = s.resetHeld ∧
    (s.setAxisFlag c a on).strapPage = s.strapPage ∧ (s.setAxisFlag c a on).links = s.links ∧
    (s.setAxisFlag c a on).selected = s.selected ∧ (s.setAxisFlag c a on).bias = s.bias ∧
    (s.setAxisFlag c a on).capture = s.capture ∧ (s.setAxisFlag c a on).zeroResult = s.zeroResult ∧
    (s.setAxisFlag c a on).cport = s.cport ∧ (s.setAxisFlag c a on).mport = s.mport ∧
    (s.setAxisFlag c a on).severity = s.severity ∧ (s.setAxisFlag c a on).burst = s.burst ∧
    (s.setAxisFlag c a on).exciteResult = s.exciteResult ∧ (s.setAxisFlag c a on).timecode = s.timecode ∧
    (s.setAxisFlag c a on).ring = s.ring ∧ (s.setAxisFlag c a on).profile = s.profile ∧ (s.setAxisFlag c a on).ram = s.ram ∧
    (s.setAxisFlag c a on).page = s.page ∧ (s.setAxisFlag c a on).profileActive = s.profileActive := by
  unfold State.setAxisFlag; split <;> simp

/-- What `State.setSourceFlags` leaves as it was. -/
@[simp] theorem State.setSourceFlags_frame (s : State) (lost fallback : Bool) :
    (s.setSourceFlags lost fallback).pending = s.pending ∧ (s.setSourceFlags lost fallback).resetHeld = s.resetHeld ∧
    (s.setSourceFlags lost fallback).strapPage = s.strapPage ∧ (s.setSourceFlags lost fallback).links = s.links ∧
    (s.setSourceFlags lost fallback).selected = s.selected ∧ (s.setSourceFlags lost fallback).bias = s.bias ∧
    (s.setSourceFlags lost fallback).capture = s.capture ∧ (s.setSourceFlags lost fallback).zeroResult = s.zeroResult ∧
    (s.setSourceFlags lost fallback).axes = s.axes ∧ (s.setSourceFlags lost fallback).cport = s.cport ∧
    (s.setSourceFlags lost fallback).mport = s.mport ∧ (s.setSourceFlags lost fallback).severity = s.severity ∧
    (s.setSourceFlags lost fallback).burst = s.burst ∧ (s.setSourceFlags lost fallback).exciteResult = s.exciteResult ∧
    (s.setSourceFlags lost fallback).timecode = s.timecode ∧ (s.setSourceFlags lost fallback).ring = s.ring ∧
    (s.setSourceFlags lost fallback).profile = s.profile ∧ (s.setSourceFlags lost fallback).ram = s.ram ∧
    (s.setSourceFlags lost fallback).page = s.page ∧ (s.setSourceFlags lost fallback).profileActive = s.profileActive := by
  simp [State.setSourceFlags, State.page, State.profileActive]

/-- What `State.setFrameLost` leaves as it was. -/
@[simp] theorem State.setFrameLost_frame (s : State) (on : Bool) :
    (s.setFrameLost on).pending = s.pending ∧ (s.setFrameLost on).resetHeld = s.resetHeld ∧
    (s.setFrameLost on).strapPage = s.strapPage ∧ (s.setFrameLost on).links = s.links ∧
    (s.setFrameLost on).selected = s.selected ∧ (s.setFrameLost on).bias = s.bias ∧ (s.setFrameLost on).capture = s.capture ∧
    (s.setFrameLost on).zeroResult = s.zeroResult ∧ (s.setFrameLost on).axes = s.axes ∧ (s.setFrameLost on).cport = s.cport ∧
    (s.setFrameLost on).mport = s.mport ∧ (s.setFrameLost on).severity = s.severity ∧ (s.setFrameLost on).burst = s.burst ∧
    (s.setFrameLost on).exciteResult = s.exciteResult ∧ (s.setFrameLost on).timecode = s.timecode ∧
    (s.setFrameLost on).ring = s.ring ∧ (s.setFrameLost on).profile = s.profile ∧ (s.setFrameLost on).ram = s.ram ∧
    (s.setFrameLost on).page = s.page ∧ (s.setFrameLost on).profileActive = s.profileActive := by
  unfold State.setFrameLost; split <;> simp [State.page, State.profileActive]

end Sys2Proof.Machine
end

