-- ==== Sys2Proof/Laws/Holds.lean ====
section
/-! SUPPORT. What the operations of bursts, axis states, holds and policies leave as it was. -/

namespace Sys2Proof.Machine

/-- What `State.endBurst` leaves as it was. -/
@[simp] theorem State.endBurst_frame (s : State) (b : Burst) (r : ExciteResult) :
    (s.endBurst b r).pending = s.pending ∧ (s.endBurst b r).resetHeld = s.resetHeld ∧ (s.endBurst b r).strapPage = s.strapPage ∧
    (s.endBurst b r).links = s.links ∧ (s.endBurst b r).selected = s.selected ∧ (s.endBurst b r).bias = s.bias ∧
    (s.endBurst b r).capture = s.capture ∧ (s.endBurst b r).zeroResult = s.zeroResult ∧ (s.endBurst b r).axes = s.axes ∧
    (s.endBurst b r).cport = s.cport ∧ (s.endBurst b r).mport = s.mport ∧ (s.endBurst b r).severity = s.severity ∧
    (s.endBurst b r).faults = s.faults ∧ (s.endBurst b r).timecode = s.timecode ∧ (s.endBurst b r).ring = s.ring ∧
    (s.endBurst b r).profile = s.profile ∧ (s.endBurst b r).ram = s.ram ∧ (s.endBurst b r).page = s.page ∧
    (s.endBurst b r).profileActive = s.profileActive := by
  simp [State.endBurst, State.page, State.profileActive]

/-- What `State.abortBurst` leaves as it was. -/
@[simp] theorem State.abortBurst_frame (s : State)  :
    (s.abortBurst).pending = s.pending ∧ (s.abortBurst).resetHeld = s.resetHeld ∧ (s.abortBurst).strapPage = s.strapPage ∧
    (s.abortBurst).links = s.links ∧ (s.abortBurst).selected = s.selected ∧ (s.abortBurst).bias = s.bias ∧
    (s.abortBurst).capture = s.capture ∧ (s.abortBurst).zeroResult = s.zeroResult ∧ (s.abortBurst).axes = s.axes ∧
    (s.abortBurst).cport = s.cport ∧ (s.abortBurst).mport = s.mport ∧ (s.abortBurst).severity = s.severity ∧
    (s.abortBurst).faults = s.faults ∧ (s.abortBurst).timecode = s.timecode ∧ (s.abortBurst).ring = s.ring ∧
    (s.abortBurst).profile = s.profile ∧ (s.abortBurst).ram = s.ram ∧ (s.abortBurst).page = s.page ∧
    (s.abortBurst).profileActive = s.profileActive := by
  unfold State.abortBurst; split <;> simp

/-- What `State.abortBurstOn` leaves as it was. -/
@[simp] theorem State.abortBurstOn_frame (s : State) (a : AxisId) :
    (s.abortBurstOn a).pending = s.pending ∧ (s.abortBurstOn a).resetHeld = s.resetHeld ∧
    (s.abortBurstOn a).strapPage = s.strapPage ∧ (s.abortBurstOn a).links = s.links ∧
    (s.abortBurstOn a).selected = s.selected ∧ (s.abortBurstOn a).bias = s.bias ∧ (s.abortBurstOn a).capture = s.capture ∧
    (s.abortBurstOn a).zeroResult = s.zeroResult ∧ (s.abortBurstOn a).axes = s.axes ∧ (s.abortBurstOn a).cport = s.cport ∧
    (s.abortBurstOn a).mport = s.mport ∧ (s.abortBurstOn a).severity = s.severity ∧ (s.abortBurstOn a).faults = s.faults ∧
    (s.abortBurstOn a).timecode = s.timecode ∧ (s.abortBurstOn a).ring = s.ring ∧ (s.abortBurstOn a).profile = s.profile ∧
    (s.abortBurstOn a).ram = s.ram ∧ (s.abortBurstOn a).page = s.page ∧
    (s.abortBurstOn a).profileActive = s.profileActive := by
  unfold State.abortBurstOn; (repeat' split) <;> simp

/-- What `State.burstStep` leaves as it was. -/
@[simp] theorem State.burstStep_frame (s : State)  :
    (s.burstStep).pending = s.pending ∧ (s.burstStep).resetHeld = s.resetHeld ∧ (s.burstStep).strapPage = s.strapPage ∧
    (s.burstStep).links = s.links ∧ (s.burstStep).selected = s.selected ∧ (s.burstStep).bias = s.bias ∧
    (s.burstStep).capture = s.capture ∧ (s.burstStep).zeroResult = s.zeroResult ∧ (s.burstStep).axes = s.axes ∧
    (s.burstStep).cport = s.cport ∧ (s.burstStep).mport = s.mport ∧ (s.burstStep).severity = s.severity ∧
    (s.burstStep).faults = s.faults ∧ (s.burstStep).timecode = s.timecode ∧ (s.burstStep).ring = s.ring ∧
    (s.burstStep).profile = s.profile ∧ (s.burstStep).ram = s.ram ∧ (s.burstStep).page = s.page ∧
    (s.burstStep).profileActive = s.profileActive := by
  unfold State.burstStep; (repeat' split) <;> simp [State.page, State.profileActive]

/-- What `State.setAxisState` leaves as it was. -/
@[simp] theorem State.setAxisState_frame (s : State) (a : AxisId) (st : AxisState) :
    (s.setAxisState a st).pending = s.pending ∧ (s.setAxisState a st).resetHeld = s.resetHeld ∧
    (s.setAxisState a st).strapPage = s.strapPage ∧ (s.setAxisState a st).links = s.links ∧
    (s.setAxisState a st).selected = s.selected ∧ (s.setAxisState a st).bias = s.bias ∧
    (s.setAxisState a st).capture = s.capture ∧ (s.setAxisState a st).zeroResult = s.zeroResult ∧
    (s.setAxisState a st).cport = s.cport ∧ (s.setAxisState a st).mport = s.mport ∧
    (s.setAxisState a st).severity = s.severity ∧ (s.setAxisState a st).faults = s.faults ∧
    (s.setAxisState a st).timecode = s.timecode ∧ (s.setAxisState a st).ring = s.ring ∧
    (s.setAxisState a st).profile = s.profile ∧ (s.setAxisState a st).ram = s.ram ∧ (s.setAxisState a st).page = s.page ∧
    (s.setAxisState a st).profileActive = s.profileActive := by
  unfold State.setAxisState; split <;> simp

/-- What `State.addCause` leaves as it was. -/
@[simp] theorem State.addCause_frame (s : State) (a : AxisId) (c : Cause) :
    (s.addCause a c).pending = s.pending ∧ (s.addCause a c).resetHeld = s.resetHeld ∧
    (s.addCause a c).strapPage = s.strapPage ∧ (s.addCause a c).links = s.links ∧ (s.addCause a c).selected = s.selected ∧
    (s.addCause a c).bias = s.bias ∧ (s.addCause a c).capture = s.capture ∧ (s.addCause a c).zeroResult = s.zeroResult ∧
    (s.addCause a c).cport = s.cport ∧ (s.addCause a c).mport = s.mport ∧ (s.addCause a c).severity = s.severity ∧
    (s.addCause a c).burst = s.burst ∧ (s.addCause a c).exciteResult = s.exciteResult ∧ (s.addCause a c).faults = s.faults ∧
    (s.addCause a c).timecode = s.timecode ∧ (s.addCause a c).ring = s.ring ∧ (s.addCause a c).profile = s.profile ∧
    (s.addCause a c).ram = s.ram ∧ (s.addCause a c).page = s.page ∧ (s.addCause a c).profileActive = s.profileActive := by
  simp [State.addCause]

/-- What `State.markRefresh` leaves as it was. -/
@[simp] theorem State.markRefresh_frame (s : State) (a : AxisId) :
    (s.markRefresh a).pending = s.pending ∧ (s.markRefresh a).resetHeld = s.resetHeld ∧
    (s.markRefresh a).strapPage = s.strapPage ∧ (s.markRefresh a).links = s.links ∧ (s.markRefresh a).selected = s.selected ∧
    (s.markRefresh a).bias = s.bias ∧ (s.markRefresh a).capture = s.capture ∧ (s.markRefresh a).zeroResult = s.zeroResult ∧
    (s.markRefresh a).cport = s.cport ∧ (s.markRefresh a).mport = s.mport ∧ (s.markRefresh a).severity = s.severity ∧
    (s.markRefresh a).burst = s.burst ∧ (s.markRefresh a).exciteResult = s.exciteResult ∧
    (s.markRefresh a).faults = s.faults ∧ (s.markRefresh a).timecode = s.timecode ∧ (s.markRefresh a).ring = s.ring ∧
    (s.markRefresh a).profile = s.profile ∧ (s.markRefresh a).report = s.report ∧ (s.markRefresh a).ram = s.ram ∧
    (s.markRefresh a).page = s.page ∧ (s.markRefresh a).profileActive = s.profileActive := by
  unfold State.markRefresh; split <;> simp

/-- What `State.clearRefresh` leaves as it was. -/
@[simp] theorem State.clearRefresh_frame (s : State) (a : AxisId) :
    (s.clearRefresh a).pending = s.pending ∧ (s.clearRefresh a).resetHeld = s.resetHeld ∧
    (s.clearRefresh a).strapPage = s.strapPage ∧ (s.clearRefresh a).links = s.links ∧
    (s.clearRefresh a).selected = s.selected ∧ (s.clearRefresh a).bias = s.bias ∧ (s.clearRefresh a).capture = s.capture ∧
    (s.clearRefresh a).zeroResult = s.zeroResult ∧ (s.clearRefresh a).cport = s.cport ∧ (s.clearRefresh a).mport = s.mport ∧
    (s.clearRefresh a).severity = s.severity ∧ (s.clearRefresh a).burst = s.burst ∧
    (s.clearRefresh a).exciteResult = s.exciteResult ∧ (s.clearRefresh a).timecode = s.timecode ∧
    (s.clearRefresh a).ring = s.ring ∧ (s.clearRefresh a).profile = s.profile ∧ (s.clearRefresh a).ram = s.ram ∧
    (s.clearRefresh a).page = s.page ∧ (s.clearRefresh a).profileActive = s.profileActive := by
  simp [State.clearRefresh]

/-- What `State.enterHeld` leaves as it was. -/
@[simp] theorem State.enterHeld_frame (s : State) (a : AxisId) (c : Cause) :
    (s.enterHeld a c).pending = s.pending ∧ (s.enterHeld a c).resetHeld = s.resetHeld ∧
    (s.enterHeld a c).strapPage = s.strapPage ∧ (s.enterHeld a c).links = s.links ∧ (s.enterHeld a c).selected = s.selected ∧
    (s.enterHeld a c).bias = s.bias ∧ (s.enterHeld a c).capture = s.capture ∧ (s.enterHeld a c).zeroResult = s.zeroResult ∧
    (s.enterHeld a c).cport = s.cport ∧ (s.enterHeld a c).mport = s.mport ∧ (s.enterHeld a c).severity = s.severity ∧
    (s.enterHeld a c).timecode = s.timecode ∧ (s.enterHeld a c).ring = s.ring ∧ (s.enterHeld a c).profile = s.profile ∧
    (s.enterHeld a c).ram = s.ram ∧ (s.enterHeld a c).page = s.page ∧ (s.enterHeld a c).profileActive = s.profileActive := by
  simp [State.enterHeld]

/-- What `State.hold` leaves as it was. -/
@[simp] theorem State.hold_frame (s : State) (a : AxisId) (c : Cause) :
    (s.hold a c).pending = s.pending ∧ (s.hold a c).resetHeld = s.resetHeld ∧ (s.hold a c).strapPage = s.strapPage ∧
    (s.hold a c).links = s.links ∧ (s.hold a c).selected = s.selected ∧ (s.hold a c).bias = s.bias ∧
    (s.hold a c).capture = s.capture ∧ (s.hold a c).zeroResult = s.zeroResult ∧ (s.hold a c).cport = s.cport ∧
    (s.hold a c).mport = s.mport ∧ (s.hold a c).severity = s.severity ∧ (s.hold a c).timecode = s.timecode ∧
    (s.hold a c).ring = s.ring ∧ (s.hold a c).profile = s.profile ∧ (s.hold a c).ram = s.ram ∧ (s.hold a c).page = s.page ∧
    (s.hold a c).profileActive = s.profileActive := by
  unfold State.hold; split <;> simp

/-- What `State.holdRequest` leaves as it was. -/
@[simp] theorem State.holdRequest_frame (s : State) (fc : FaultClass) (a : AxisId) :
    (s.holdRequest fc a).pending = s.pending ∧ (s.holdRequest fc a).resetHeld = s.resetHeld ∧
    (s.holdRequest fc a).strapPage = s.strapPage ∧ (s.holdRequest fc a).links = s.links ∧
    (s.holdRequest fc a).selected = s.selected ∧ (s.holdRequest fc a).bias = s.bias ∧
    (s.holdRequest fc a).capture = s.capture ∧ (s.holdRequest fc a).zeroResult = s.zeroResult ∧
    (s.holdRequest fc a).cport = s.cport ∧ (s.holdRequest fc a).mport = s.mport ∧
    (s.holdRequest fc a).severity = s.severity ∧ (s.holdRequest fc a).timecode = s.timecode ∧
    (s.holdRequest fc a).ring = s.ring ∧ (s.holdRequest fc a).profile = s.profile ∧ (s.holdRequest fc a).ram = s.ram ∧
    (s.holdRequest fc a).page = s.page ∧ (s.holdRequest fc a).profileActive = s.profileActive := by
  unfold State.holdRequest; split <;> simp

/-- What `State.holdAll` leaves as it was. -/
@[simp] theorem State.holdAll_frame (s : State) (fc : FaultClass) :
    (s.holdAll fc).pending = s.pending ∧ (s.holdAll fc).resetHeld = s.resetHeld ∧ (s.holdAll fc).strapPage = s.strapPage ∧
    (s.holdAll fc).links = s.links ∧ (s.holdAll fc).selected = s.selected ∧ (s.holdAll fc).bias = s.bias ∧
    (s.holdAll fc).capture = s.capture ∧ (s.holdAll fc).zeroResult = s.zeroResult ∧ (s.holdAll fc).cport = s.cport ∧
    (s.holdAll fc).mport = s.mport ∧ (s.holdAll fc).severity = s.severity ∧ (s.holdAll fc).timecode = s.timecode ∧
    (s.holdAll fc).ring = s.ring ∧ (s.holdAll fc).profile = s.profile ∧ (s.holdAll fc).ram = s.ram ∧
    (s.holdAll fc).page = s.page ∧ (s.holdAll fc).profileActive = s.profileActive := by
  simp [State.holdAll, forAxes]

/-- What `State.applyDevicePolicy` leaves as it was. -/
@[simp] theorem State.applyDevicePolicy_frame (s : State) (fc : FaultClass) :
    (s.applyDevicePolicy fc).pending = s.pending ∧ (s.applyDevicePolicy fc).resetHeld = s.resetHeld ∧
    (s.applyDevicePolicy fc).strapPage = s.strapPage ∧ (s.applyDevicePolicy fc).links = s.links ∧
    (s.applyDevicePolicy fc).selected = s.selected ∧ (s.applyDevicePolicy fc).bias = s.bias ∧
    (s.applyDevicePolicy fc).capture = s.capture ∧ (s.applyDevicePolicy fc).zeroResult = s.zeroResult ∧
    (s.applyDevicePolicy fc).cport = s.cport ∧ (s.applyDevicePolicy fc).mport = s.mport ∧
    (s.applyDevicePolicy fc).severity = s.severity ∧ (s.applyDevicePolicy fc).timecode = s.timecode ∧
    (s.applyDevicePolicy fc).ring = s.ring ∧ (s.applyDevicePolicy fc).profile = s.profile ∧
    (s.applyDevicePolicy fc).ram = s.ram ∧ (s.applyDevicePolicy fc).page = s.page ∧
    (s.applyDevicePolicy fc).profileActive = s.profileActive := by
  unfold State.applyDevicePolicy; split <;> simp

/-- What `State.applyAxisPolicy` leaves as it was. -/
@[simp] theorem State.applyAxisPolicy_frame (s : State) (c : AxisClass) (a : AxisId) :
    (s.applyAxisPolicy c a).pending = s.pending ∧ (s.applyAxisPolicy c a).resetHeld = s.resetHeld ∧
    (s.applyAxisPolicy c a).strapPage = s.strapPage ∧ (s.applyAxisPolicy c a).links = s.links ∧
    (s.applyAxisPolicy c a).selected = s.selected ∧ (s.applyAxisPolicy c a).bias = s.bias ∧
    (s.applyAxisPolicy c a).capture = s.capture ∧ (s.applyAxisPolicy c a).zeroResult = s.zeroResult ∧
    (s.applyAxisPolicy c a).cport = s.cport ∧ (s.applyAxisPolicy c a).mport = s.mport ∧
    (s.applyAxisPolicy c a).severity = s.severity ∧ (s.applyAxisPolicy c a).timecode = s.timecode ∧
    (s.applyAxisPolicy c a).ring = s.ring ∧ (s.applyAxisPolicy c a).profile = s.profile ∧
    (s.applyAxisPolicy c a).ram = s.ram ∧ (s.applyAxisPolicy c a).page = s.page ∧
    (s.applyAxisPolicy c a).profileActive = s.profileActive := by
  unfold State.applyAxisPolicy; split <;> simp

/-- What `State.activate` leaves as it was. -/
@[simp] theorem State.activate_frame (s : State) (c : AxisClass) (a : AxisId) :
    (s.activate c a).pending = s.pending ∧ (s.activate c a).resetHeld = s.resetHeld ∧
    (s.activate c a).strapPage = s.strapPage ∧ (s.activate c a).links = s.links ∧ (s.activate c a).selected = s.selected ∧
    (s.activate c a).bias = s.bias ∧ (s.activate c a).capture = s.capture ∧ (s.activate c a).zeroResult = s.zeroResult ∧
    (s.activate c a).cport = s.cport ∧ (s.activate c a).mport = s.mport ∧ (s.activate c a).severity = s.severity ∧
    (s.activate c a).timecode = s.timecode ∧ (s.activate c a).ring = s.ring ∧ (s.activate c a).profile = s.profile ∧
    (s.activate c a).ram = s.ram ∧ (s.activate c a).page = s.page ∧ (s.activate c a).profileActive = s.profileActive := by
  unfold State.activate; split <;> simp

/-- What `State.judgeSources` leaves as it was. -/
@[simp] theorem State.judgeSources_frame (s : State)  :
    (s.judgeSources).pending = s.pending ∧ (s.judgeSources).resetHeld = s.resetHeld ∧
    (s.judgeSources).strapPage = s.strapPage ∧ (s.judgeSources).links = s.links ∧ (s.judgeSources).selected = s.selected ∧
    (s.judgeSources).bias = s.bias ∧ (s.judgeSources).capture = s.capture ∧ (s.judgeSources).zeroResult = s.zeroResult ∧
    (s.judgeSources).cport = s.cport ∧ (s.judgeSources).mport = s.mport ∧ (s.judgeSources).severity = s.severity ∧
    (s.judgeSources).timecode = s.timecode ∧ (s.judgeSources).ring = s.ring ∧ (s.judgeSources).profile = s.profile ∧
    (s.judgeSources).ram = s.ram ∧ (s.judgeSources).page = s.page ∧ (s.judgeSources).profileActive = s.profileActive := by
  unfold State.judgeSources; simp only []; (repeat' split) <;> simp

/-- What `State.silenceExpiry` leaves as it was. -/
@[simp] theorem State.silenceExpiry_frame (s : State) (a : AxisId) :
    (s.silenceExpiry a).pending = s.pending ∧ (s.silenceExpiry a).resetHeld = s.resetHeld ∧
    (s.silenceExpiry a).strapPage = s.strapPage ∧ (s.silenceExpiry a).links = s.links ∧
    (s.silenceExpiry a).selected = s.selected ∧ (s.silenceExpiry a).bias = s.bias ∧ (s.silenceExpiry a).capture = s.capture ∧
    (s.silenceExpiry a).zeroResult = s.zeroResult ∧ (s.silenceExpiry a).cport = s.cport ∧
    (s.silenceExpiry a).mport = s.mport ∧ (s.silenceExpiry a).severity = s.severity ∧
    (s.silenceExpiry a).timecode = s.timecode ∧ (s.silenceExpiry a).ring = s.ring ∧ (s.silenceExpiry a).profile = s.profile ∧
    (s.silenceExpiry a).ram = s.ram ∧ (s.silenceExpiry a).page = s.page ∧
    (s.silenceExpiry a).profileActive = s.profileActive := by
  unfold State.silenceExpiry; simp only []; (repeat' split) <;> simp

/-- What `State.dwellExpiry` leaves as it was. -/
@[simp] theorem State.dwellExpiry_frame (s : State) (a : AxisId) :
    (s.dwellExpiry a).pending = s.pending ∧ (s.dwellExpiry a).resetHeld = s.resetHeld ∧
    (s.dwellExpiry a).strapPage = s.strapPage ∧ (s.dwellExpiry a).links = s.links ∧ (s.dwellExpiry a).selected = s.selected ∧
    (s.dwellExpiry a).bias = s.bias ∧ (s.dwellExpiry a).capture = s.capture ∧ (s.dwellExpiry a).zeroResult = s.zeroResult ∧
    (s.dwellExpiry a).cport = s.cport ∧ (s.dwellExpiry a).mport = s.mport ∧ (s.dwellExpiry a).severity = s.severity ∧
    (s.dwellExpiry a).timecode = s.timecode ∧ (s.dwellExpiry a).ring = s.ring ∧ (s.dwellExpiry a).profile = s.profile ∧
    (s.dwellExpiry a).ram = s.ram ∧ (s.dwellExpiry a).page = s.page ∧ (s.dwellExpiry a).profileActive = s.profileActive := by
  unfold State.dwellExpiry; split <;> simp

/-- What `State.deadlineExpiry` leaves as it was. -/
@[simp] theorem State.deadlineExpiry_frame (s : State) (a : AxisId) :
    (s.deadlineExpiry a).pending = s.pending ∧ (s.deadlineExpiry a).resetHeld = s.resetHeld ∧
    (s.deadlineExpiry a).strapPage = s.strapPage ∧ (s.deadlineExpiry a).links = s.links ∧
    (s.deadlineExpiry a).selected = s.selected ∧ (s.deadlineExpiry a).bias = s.bias ∧
    (s.deadlineExpiry a).capture = s.capture ∧ (s.deadlineExpiry a).zeroResult = s.zeroResult ∧
    (s.deadlineExpiry a).cport = s.cport ∧ (s.deadlineExpiry a).mport = s.mport ∧
    (s.deadlineExpiry a).severity = s.severity ∧ (s.deadlineExpiry a).timecode = s.timecode ∧
    (s.deadlineExpiry a).ring = s.ring ∧ (s.deadlineExpiry a).profile = s.profile ∧ (s.deadlineExpiry a).ram = s.ram ∧
    (s.deadlineExpiry a).page = s.page ∧ (s.deadlineExpiry a).profileActive = s.profileActive := by
  unfold State.deadlineExpiry; simp only []; (repeat' split) <;> simp

end Sys2Proof.Machine
end

