-- ==== Sys2Proof/Laws/Arrivals.lean ====
section
/-! SUPPORT. What composition, the severity monitor, the estimator and the Link Receiver leave as it was. -/

namespace Sys2Proof.Machine

/-- What `State.measureDwell` leaves as it was. -/
@[simp] theorem State.measureDwell_frame (s : State) (a : AxisId) :
    (s.measureDwell a).pending = s.pending ∧ (s.measureDwell a).resetHeld = s.resetHeld ∧
    (s.measureDwell a).strapPage = s.strapPage ∧ (s.measureDwell a).links = s.links ∧
    (s.measureDwell a).selected = s.selected ∧ (s.measureDwell a).bias = s.bias ∧ (s.measureDwell a).capture = s.capture ∧
    (s.measureDwell a).zeroResult = s.zeroResult ∧ (s.measureDwell a).cport = s.cport ∧ (s.measureDwell a).mport = s.mport ∧
    (s.measureDwell a).severity = s.severity ∧ (s.measureDwell a).burst = s.burst ∧
    (s.measureDwell a).exciteResult = s.exciteResult ∧ (s.measureDwell a).timecode = s.timecode ∧
    (s.measureDwell a).ring = s.ring ∧ (s.measureDwell a).profile = s.profile ∧ (s.measureDwell a).ram = s.ram ∧
    (s.measureDwell a).page = s.page ∧ (s.measureDwell a).profileActive = s.profileActive := by
  unfold State.measureDwell; (repeat' split) <;> simp

/-- What `State.compose` leaves as it was. -/
@[simp] theorem State.compose_frame (s : State) (a : AxisId) :
    (s.compose a).pending = s.pending ∧ (s.compose a).resetHeld = s.resetHeld ∧ (s.compose a).strapPage = s.strapPage ∧
    (s.compose a).links = s.links ∧ (s.compose a).selected = s.selected ∧ (s.compose a).bias = s.bias ∧
    (s.compose a).capture = s.capture ∧ (s.compose a).zeroResult = s.zeroResult ∧ (s.compose a).cport = s.cport ∧
    (s.compose a).mport = s.mport ∧ (s.compose a).severity = s.severity ∧ (s.compose a).burst = s.burst ∧
    (s.compose a).exciteResult = s.exciteResult ∧ (s.compose a).timecode = s.timecode ∧ (s.compose a).ring = s.ring ∧
    (s.compose a).profile = s.profile ∧ (s.compose a).ram = s.ram ∧ (s.compose a).page = s.page ∧
    (s.compose a).profileActive = s.profileActive := by
  simp [State.compose]

/-- What `State.countArrival` leaves as it was. -/
@[simp] theorem State.countArrival_frame (s : State) (a : AxisId) :
    (s.countArrival a).pending = s.pending ∧ (s.countArrival a).resetHeld = s.resetHeld ∧
    (s.countArrival a).strapPage = s.strapPage ∧ (s.countArrival a).links = s.links ∧
    (s.countArrival a).selected = s.selected ∧ (s.countArrival a).bias = s.bias ∧ (s.countArrival a).capture = s.capture ∧
    (s.countArrival a).zeroResult = s.zeroResult ∧ (s.countArrival a).cport = s.cport ∧ (s.countArrival a).mport = s.mport ∧
    (s.countArrival a).severity = s.severity ∧ (s.countArrival a).burst = s.burst ∧
    (s.countArrival a).exciteResult = s.exciteResult ∧ (s.countArrival a).faults = s.faults ∧
    (s.countArrival a).timecode = s.timecode ∧ (s.countArrival a).ring = s.ring ∧ (s.countArrival a).profile = s.profile ∧
    (s.countArrival a).report = s.report ∧ (s.countArrival a).ram = s.ram ∧ (s.countArrival a).page = s.page ∧
    (s.countArrival a).profileActive = s.profileActive := by
  unfold State.countArrival; split <;> simp

/-- What `State.arrivalAt` leaves as it was. -/
@[simp] theorem State.arrivalAt_frame (s : State) (a : AxisId) :
    (s.arrivalAt a).pending = s.pending ∧ (s.arrivalAt a).resetHeld = s.resetHeld ∧ (s.arrivalAt a).strapPage = s.strapPage ∧
    (s.arrivalAt a).links = s.links ∧ (s.arrivalAt a).selected = s.selected ∧ (s.arrivalAt a).bias = s.bias ∧
    (s.arrivalAt a).capture = s.capture ∧ (s.arrivalAt a).zeroResult = s.zeroResult ∧ (s.arrivalAt a).cport = s.cport ∧
    (s.arrivalAt a).mport = s.mport ∧ (s.arrivalAt a).severity = s.severity ∧ (s.arrivalAt a).burst = s.burst ∧
    (s.arrivalAt a).exciteResult = s.exciteResult ∧ (s.arrivalAt a).timecode = s.timecode ∧ (s.arrivalAt a).ring = s.ring ∧
    (s.arrivalAt a).profile = s.profile ∧ (s.arrivalAt a).ram = s.ram ∧ (s.arrivalAt a).page = s.page ∧
    (s.arrivalAt a).profileActive = s.profileActive := by
  unfold State.arrivalAt; split <;> simp

/-- What `State.startSilence` leaves as it was. -/
@[simp] theorem State.startSilence_frame (s : State) (a : AxisId) :
    (s.startSilence a).pending = s.pending ∧ (s.startSilence a).resetHeld = s.resetHeld ∧
    (s.startSilence a).strapPage = s.strapPage ∧ (s.startSilence a).links = s.links ∧
    (s.startSilence a).selected = s.selected ∧ (s.startSilence a).bias = s.bias ∧ (s.startSilence a).capture = s.capture ∧
    (s.startSilence a).zeroResult = s.zeroResult ∧ (s.startSilence a).cport = s.cport ∧ (s.startSilence a).mport = s.mport ∧
    (s.startSilence a).severity = s.severity ∧ (s.startSilence a).burst = s.burst ∧
    (s.startSilence a).exciteResult = s.exciteResult ∧ (s.startSilence a).faults = s.faults ∧
    (s.startSilence a).timecode = s.timecode ∧ (s.startSilence a).ring = s.ring ∧ (s.startSilence a).profile = s.profile ∧
    (s.startSilence a).report = s.report ∧ (s.startSilence a).ram = s.ram ∧ (s.startSilence a).page = s.page ∧
    (s.startSilence a).profileActive = s.profileActive := by
  simp [State.startSilence]

/-- What `State.recordIntent` leaves as it was. -/
@[simp] theorem State.recordIntent_frame (s : State) (a : AxisId) (addr : Addr) (data : Word) (lanes : Lanes) :
    (s.recordIntent a addr data lanes).pending = s.pending ∧ (s.recordIntent a addr data lanes).resetHeld = s.resetHeld ∧
    (s.recordIntent a addr data lanes).strapPage = s.strapPage ∧ (s.recordIntent a addr data lanes).links = s.links ∧
    (s.recordIntent a addr data lanes).selected = s.selected ∧ (s.recordIntent a addr data lanes).bias = s.bias ∧
    (s.recordIntent a addr data lanes).capture = s.capture ∧ (s.recordIntent a addr data lanes).zeroResult = s.zeroResult ∧
    (s.recordIntent a addr data lanes).cport = s.cport ∧ (s.recordIntent a addr data lanes).mport = s.mport ∧
    (s.recordIntent a addr data lanes).severity = s.severity ∧ (s.recordIntent a addr data lanes).timecode = s.timecode ∧
    (s.recordIntent a addr data lanes).ring = s.ring ∧ (s.recordIntent a addr data lanes).profile = s.profile ∧
    (s.recordIntent a addr data lanes).ram = s.ram ∧ (s.recordIntent a addr data lanes).page = s.page ∧
    (s.recordIntent a addr data lanes).profileActive = s.profileActive := by
  unfold State.recordIntent; simp only []; split <;> simp

/-- What `State.holdBoost` leaves as it was. -/
@[simp] theorem State.holdBoost_frame (s : State) (v : Word) :
    (s.holdBoost v).pending = s.pending ∧ (s.holdBoost v).resetHeld = s.resetHeld ∧ (s.holdBoost v).strapPage = s.strapPage ∧
    (s.holdBoost v).links = s.links ∧ (s.holdBoost v).selected = s.selected ∧ (s.holdBoost v).bias = s.bias ∧
    (s.holdBoost v).capture = s.capture ∧ (s.holdBoost v).zeroResult = s.zeroResult ∧ (s.holdBoost v).axes = s.axes ∧
    (s.holdBoost v).cport = s.cport ∧ (s.holdBoost v).mport = s.mport ∧ (s.holdBoost v).burst = s.burst ∧
    (s.holdBoost v).exciteResult = s.exciteResult ∧ (s.holdBoost v).faults = s.faults ∧
    (s.holdBoost v).timecode = s.timecode ∧ (s.holdBoost v).ring = s.ring ∧ (s.holdBoost v).profile = s.profile ∧
    (s.holdBoost v).report = s.report ∧ (s.holdBoost v).ram = s.ram ∧ (s.holdBoost v).page = s.page ∧
    (s.holdBoost v).profileActive = s.profileActive := by
  unfold State.holdBoost; split <;> simp [State.page, State.profileActive]

/-- What `State.setSeverity` leaves as it was. -/
@[simp] theorem State.setSeverity_frame (s : State) (st : SeverityState) :
    (s.setSeverity st).pending = s.pending ∧ (s.setSeverity st).resetHeld = s.resetHeld ∧
    (s.setSeverity st).strapPage = s.strapPage ∧ (s.setSeverity st).links = s.links ∧
    (s.setSeverity st).selected = s.selected ∧ (s.setSeverity st).bias = s.bias ∧ (s.setSeverity st).capture = s.capture ∧
    (s.setSeverity st).zeroResult = s.zeroResult ∧ (s.setSeverity st).axes = s.axes ∧ (s.setSeverity st).cport = s.cport ∧
    (s.setSeverity st).mport = s.mport ∧ (s.setSeverity st).burst = s.burst ∧
    (s.setSeverity st).exciteResult = s.exciteResult ∧ (s.setSeverity st).faults = s.faults ∧
    (s.setSeverity st).timecode = s.timecode ∧ (s.setSeverity st).ring = s.ring ∧ (s.setSeverity st).profile = s.profile ∧
    (s.setSeverity st).ram = s.ram ∧ (s.setSeverity st).page = s.page ∧
    (s.setSeverity st).profileActive = s.profileActive := by
  simp [State.setSeverity, State.page, State.profileActive]

/-- What `State.startEasing` leaves as it was. -/
@[simp] theorem State.startEasing_frame (s : State)  :
    (s.startEasing).pending = s.pending ∧ (s.startEasing).resetHeld = s.resetHeld ∧ (s.startEasing).strapPage = s.strapPage ∧
    (s.startEasing).links = s.links ∧ (s.startEasing).selected = s.selected ∧ (s.startEasing).bias = s.bias ∧
    (s.startEasing).capture = s.capture ∧ (s.startEasing).zeroResult = s.zeroResult ∧ (s.startEasing).axes = s.axes ∧
    (s.startEasing).cport = s.cport ∧ (s.startEasing).mport = s.mport ∧ (s.startEasing).burst = s.burst ∧
    (s.startEasing).exciteResult = s.exciteResult ∧ (s.startEasing).faults = s.faults ∧
    (s.startEasing).timecode = s.timecode ∧ (s.startEasing).ring = s.ring ∧ (s.startEasing).profile = s.profile ∧
    (s.startEasing).ram = s.ram ∧ (s.startEasing).page = s.page ∧ (s.startEasing).profileActive = s.profileActive := by
  simp [State.startEasing, State.page, State.profileActive]

/-- What `State.settle` leaves as it was. -/
@[simp] theorem State.settle_frame (s : State)  :
    (s.settle).pending = s.pending ∧ (s.settle).resetHeld = s.resetHeld ∧ (s.settle).strapPage = s.strapPage ∧
    (s.settle).links = s.links ∧ (s.settle).selected = s.selected ∧ (s.settle).bias = s.bias ∧
    (s.settle).capture = s.capture ∧ (s.settle).zeroResult = s.zeroResult ∧ (s.settle).axes = s.axes ∧
    (s.settle).cport = s.cport ∧ (s.settle).mport = s.mport ∧ (s.settle).burst = s.burst ∧
    (s.settle).exciteResult = s.exciteResult ∧ (s.settle).faults = s.faults ∧ (s.settle).timecode = s.timecode ∧
    (s.settle).ring = s.ring ∧ (s.settle).profile = s.profile ∧ (s.settle).ram = s.ram ∧ (s.settle).page = s.page ∧
    (s.settle).profileActive = s.profileActive := by
  unfold State.settle; simp only []; split <;> simp [State.page, State.profileActive]

/-- What `State.enterBoosting` leaves as it was. -/
@[simp] theorem State.enterBoosting_frame (s : State)  :
    (s.enterBoosting).pending = s.pending ∧ (s.enterBoosting).resetHeld = s.resetHeld ∧
    (s.enterBoosting).strapPage = s.strapPage ∧ (s.enterBoosting).links = s.links ∧ (s.enterBoosting).selected = s.selected ∧
    (s.enterBoosting).bias = s.bias ∧ (s.enterBoosting).capture = s.capture ∧ (s.enterBoosting).zeroResult = s.zeroResult ∧
    (s.enterBoosting).axes = s.axes ∧ (s.enterBoosting).cport = s.cport ∧ (s.enterBoosting).mport = s.mport ∧
    (s.enterBoosting).burst = s.burst ∧ (s.enterBoosting).exciteResult = s.exciteResult ∧
    (s.enterBoosting).faults = s.faults ∧ (s.enterBoosting).timecode = s.timecode ∧ (s.enterBoosting).ring = s.ring ∧
    (s.enterBoosting).profile = s.profile ∧ (s.enterBoosting).ram = s.ram ∧ (s.enterBoosting).page = s.page ∧
    (s.enterBoosting).profileActive = s.profileActive := by
  unfold State.enterBoosting; simp only []; split <;> simp [State.page, State.profileActive]

/-- What `State.judgeSeverity` leaves as it was. -/
@[simp] theorem State.judgeSeverity_frame (s : State)  :
    (s.judgeSeverity).pending = s.pending ∧ (s.judgeSeverity).resetHeld = s.resetHeld ∧
    (s.judgeSeverity).strapPage = s.strapPage ∧ (s.judgeSeverity).links = s.links ∧ (s.judgeSeverity).selected = s.selected ∧
    (s.judgeSeverity).bias = s.bias ∧ (s.judgeSeverity).capture = s.capture ∧ (s.judgeSeverity).zeroResult = s.zeroResult ∧
    (s.judgeSeverity).axes = s.axes ∧ (s.judgeSeverity).cport = s.cport ∧ (s.judgeSeverity).mport = s.mport ∧
    (s.judgeSeverity).burst = s.burst ∧ (s.judgeSeverity).exciteResult = s.exciteResult ∧
    (s.judgeSeverity).faults = s.faults ∧ (s.judgeSeverity).timecode = s.timecode ∧ (s.judgeSeverity).ring = s.ring ∧
    (s.judgeSeverity).profile = s.profile ∧ (s.judgeSeverity).ram = s.ram ∧ (s.judgeSeverity).page = s.page ∧
    (s.judgeSeverity).profileActive = s.profileActive := by
  unfold State.judgeSeverity; (repeat' split) <;> simp [State.page, State.profileActive]

/-- What `State.updateLevel` leaves as it was. -/
@[simp] theorem State.updateLevel_frame (s : State) (d : AxisId → Int) :
    (s.updateLevel d).pending = s.pending ∧ (s.updateLevel d).resetHeld = s.resetHeld ∧
    (s.updateLevel d).strapPage = s.strapPage ∧ (s.updateLevel d).links = s.links ∧ (s.updateLevel d).selected = s.selected ∧
    (s.updateLevel d).bias = s.bias ∧ (s.updateLevel d).capture = s.capture ∧ (s.updateLevel d).zeroResult = s.zeroResult ∧
    (s.updateLevel d).axes = s.axes ∧ (s.updateLevel d).cport = s.cport ∧ (s.updateLevel d).mport = s.mport ∧
    (s.updateLevel d).burst = s.burst ∧ (s.updateLevel d).exciteResult = s.exciteResult ∧
    (s.updateLevel d).faults = s.faults ∧ (s.updateLevel d).timecode = s.timecode ∧ (s.updateLevel d).ring = s.ring ∧
    (s.updateLevel d).profile = s.profile ∧ (s.updateLevel d).ram = s.ram ∧ (s.updateLevel d).page = s.page ∧
    (s.updateLevel d).profileActive = s.profileActive := by
  simp [State.updateLevel, State.page, State.profileActive]

/-- What `State.settleExpiry` leaves as it was. -/
@[simp] theorem State.settleExpiry_frame (s : State)  :
    (s.settleExpiry).pending = s.pending ∧ (s.settleExpiry).resetHeld = s.resetHeld ∧
    (s.settleExpiry).strapPage = s.strapPage ∧ (s.settleExpiry).links = s.links ∧ (s.settleExpiry).selected = s.selected ∧
    (s.settleExpiry).bias = s.bias ∧ (s.settleExpiry).capture = s.capture ∧ (s.settleExpiry).zeroResult = s.zeroResult ∧
    (s.settleExpiry).axes = s.axes ∧ (s.settleExpiry).cport = s.cport ∧ (s.settleExpiry).mport = s.mport ∧
    (s.settleExpiry).burst = s.burst ∧ (s.settleExpiry).exciteResult = s.exciteResult ∧ (s.settleExpiry).faults = s.faults ∧
    (s.settleExpiry).timecode = s.timecode ∧ (s.settleExpiry).ring = s.ring ∧ (s.settleExpiry).profile = s.profile ∧
    (s.settleExpiry).ram = s.ram ∧ (s.settleExpiry).page = s.page ∧ (s.settleExpiry).profileActive = s.profileActive := by
  unfold State.settleExpiry; (repeat' split) <;> simp

/-- What `State.exitHoldExpiry` leaves as it was. -/
@[simp] theorem State.exitHoldExpiry_frame (s : State)  :
    (s.exitHoldExpiry).pending = s.pending ∧ (s.exitHoldExpiry).resetHeld = s.resetHeld ∧
    (s.exitHoldExpiry).strapPage = s.strapPage ∧ (s.exitHoldExpiry).links = s.links ∧
    (s.exitHoldExpiry).selected = s.selected ∧ (s.exitHoldExpiry).bias = s.bias ∧ (s.exitHoldExpiry).capture = s.capture ∧
    (s.exitHoldExpiry).zeroResult = s.zeroResult ∧ (s.exitHoldExpiry).axes = s.axes ∧ (s.exitHoldExpiry).cport = s.cport ∧
    (s.exitHoldExpiry).mport = s.mport ∧ (s.exitHoldExpiry).burst = s.burst ∧
    (s.exitHoldExpiry).exciteResult = s.exciteResult ∧ (s.exitHoldExpiry).faults = s.faults ∧
    (s.exitHoldExpiry).timecode = s.timecode ∧ (s.exitHoldExpiry).ring = s.ring ∧ (s.exitHoldExpiry).profile = s.profile ∧
    (s.exitHoldExpiry).ram = s.ram ∧ (s.exitHoldExpiry).page = s.page ∧
    (s.exitHoldExpiry).profileActive = s.profileActive := by
  unfold State.exitHoldExpiry; (repeat' split) <;> simp [State.page, State.profileActive]

/-- What `State.takeUpBoost` leaves as it was. -/
@[simp] theorem State.takeUpBoost_frame (s : State) (old : Option Page) :
    (s.takeUpBoost old).pending = s.pending ∧ (s.takeUpBoost old).resetHeld = s.resetHeld ∧
    (s.takeUpBoost old).strapPage = s.strapPage ∧ (s.takeUpBoost old).links = s.links ∧
    (s.takeUpBoost old).selected = s.selected ∧ (s.takeUpBoost old).bias = s.bias ∧ (s.takeUpBoost old).capture = s.capture ∧
    (s.takeUpBoost old).zeroResult = s.zeroResult ∧ (s.takeUpBoost old).axes = s.axes ∧ (s.takeUpBoost old).cport = s.cport ∧
    (s.takeUpBoost old).mport = s.mport ∧ (s.takeUpBoost old).burst = s.burst ∧
    (s.takeUpBoost old).exciteResult = s.exciteResult ∧ (s.takeUpBoost old).faults = s.faults ∧
    (s.takeUpBoost old).timecode = s.timecode ∧ (s.takeUpBoost old).ring = s.ring ∧ (s.takeUpBoost old).profile = s.profile ∧
    (s.takeUpBoost old).report = s.report ∧ (s.takeUpBoost old).ram = s.ram ∧ (s.takeUpBoost old).page = s.page ∧
    (s.takeUpBoost old).profileActive = s.profileActive := by
  unfold State.takeUpBoost; (repeat' split) <;> simp [State.page, State.profileActive]

/-- What `State.integrateAxis` leaves as it was. -/
@[simp] theorem State.integrateAxis_frame (arr : Arrival) (d : Int) (s : State) (a : AxisId) :
   (s.integrateAxis arr d a).pending = s.pending ∧
    (s.integrateAxis arr d a).resetHeld = s.resetHeld ∧
    (s.integrateAxis arr d a).strapPage = s.strapPage ∧
    (s.integrateAxis arr d a).links = s.links ∧
    (s.integrateAxis arr d a).selected = s.selected ∧
    (s.integrateAxis arr d a).bias = s.bias ∧
    (s.integrateAxis arr d a).capture = s.capture ∧
    (s.integrateAxis arr d a).zeroResult = s.zeroResult ∧
    (s.integrateAxis arr d a).cport = s.cport ∧
    (s.integrateAxis arr d a).mport = s.mport ∧
    (s.integrateAxis arr d a).severity = s.severity ∧
    (s.integrateAxis arr d a).burst = s.burst ∧
    (s.integrateAxis arr d a).exciteResult = s.exciteResult ∧
    (s.integrateAxis arr d a).faults = s.faults ∧
    (s.integrateAxis arr d a).timecode = s.timecode ∧
    (s.integrateAxis arr d a).ring = s.ring ∧
    (s.integrateAxis arr d a).profile = s.profile ∧
    (s.integrateAxis arr d a).report = s.report ∧
    (s.integrateAxis arr d a).ram = s.ram ∧
    (s.integrateAxis arr d a).page = s.page ∧
    (s.integrateAxis arr d a).profileActive = s.profileActive := by
  unfold State.integrateAxis; split <;> simp

/-- What `State.endCapture` leaves as it was. -/
@[simp] theorem State.endCapture_frame (s : State) (c : Capture) (r : ZeroResult) :
    (s.endCapture c r).pending = s.pending ∧ (s.endCapture c r).resetHeld = s.resetHeld ∧
    (s.endCapture c r).strapPage = s.strapPage ∧ (s.endCapture c r).links = s.links ∧ (s.endCapture c r).selected = s.selected ∧
    (s.endCapture c r).bias = s.bias ∧ (s.endCapture c r).axes = s.axes ∧ (s.endCapture c r).cport = s.cport ∧
    (s.endCapture c r).mport = s.mport ∧ (s.endCapture c r).severity = s.severity ∧ (s.endCapture c r).burst = s.burst ∧
    (s.endCapture c r).exciteResult = s.exciteResult ∧ (s.endCapture c r).faults = s.faults ∧
    (s.endCapture c r).timecode = s.timecode ∧ (s.endCapture c r).ring = s.ring ∧ (s.endCapture c r).profile = s.profile ∧
    (s.endCapture c r).ram = s.ram ∧ (s.endCapture c r).page = s.page ∧ (s.endCapture c r).profileActive = s.profileActive := by
  simp [State.endCapture, State.page, State.profileActive]

/-- What `State.abortCapture` leaves as it was. -/
@[simp] theorem State.abortCapture_frame (s : State)  :
    (s.abortCapture).pending = s.pending ∧ (s.abortCapture).resetHeld = s.resetHeld ∧
    (s.abortCapture).strapPage = s.strapPage ∧ (s.abortCapture).links = s.links ∧ (s.abortCapture).selected = s.selected ∧
    (s.abortCapture).bias = s.bias ∧ (s.abortCapture).axes = s.axes ∧ (s.abortCapture).cport = s.cport ∧
    (s.abortCapture).mport = s.mport ∧ (s.abortCapture).severity = s.severity ∧ (s.abortCapture).burst = s.burst ∧
    (s.abortCapture).exciteResult = s.exciteResult ∧ (s.abortCapture).faults = s.faults ∧
    (s.abortCapture).timecode = s.timecode ∧ (s.abortCapture).ring = s.ring ∧ (s.abortCapture).profile = s.profile ∧
    (s.abortCapture).ram = s.ram ∧ (s.abortCapture).page = s.page ∧ (s.abortCapture).profileActive = s.profileActive := by
  unfold State.abortCapture; split <;> simp

/-- What `State.completeCapture` leaves as it was. -/
@[simp] theorem State.completeCapture_frame (s : State) (c : Capture) :
    (s.completeCapture c).pending = s.pending ∧ (s.completeCapture c).resetHeld = s.resetHeld ∧
    (s.completeCapture c).strapPage = s.strapPage ∧ (s.completeCapture c).links = s.links ∧
    (s.completeCapture c).selected = s.selected ∧ (s.completeCapture c).axes = s.axes ∧
    (s.completeCapture c).cport = s.cport ∧ (s.completeCapture c).mport = s.mport ∧
    (s.completeCapture c).severity = s.severity ∧ (s.completeCapture c).burst = s.burst ∧
    (s.completeCapture c).exciteResult = s.exciteResult ∧ (s.completeCapture c).faults = s.faults ∧
    (s.completeCapture c).timecode = s.timecode ∧ (s.completeCapture c).ring = s.ring ∧
    (s.completeCapture c).profile = s.profile ∧ (s.completeCapture c).ram = s.ram ∧ (s.completeCapture c).page = s.page ∧
    (s.completeCapture c).profileActive = s.profileActive := by
  simp [State.completeCapture, State.page, State.profileActive]

/-- What `State.captureStep` leaves as it was. -/
@[simp] theorem State.captureStep_frame (s : State) (arr : Arrival) :
    (s.captureStep arr).pending = s.pending ∧ (s.captureStep arr).resetHeld = s.resetHeld ∧
    (s.captureStep arr).strapPage = s.strapPage ∧ (s.captureStep arr).links = s.links ∧
    (s.captureStep arr).selected = s.selected ∧ (s.captureStep arr).axes = s.axes ∧ (s.captureStep arr).cport = s.cport ∧
    (s.captureStep arr).mport = s.mport ∧ (s.captureStep arr).severity = s.severity ∧ (s.captureStep arr).burst = s.burst ∧
    (s.captureStep arr).exciteResult = s.exciteResult ∧ (s.captureStep arr).faults = s.faults ∧
    (s.captureStep arr).timecode = s.timecode ∧ (s.captureStep arr).ring = s.ring ∧ (s.captureStep arr).profile = s.profile ∧
    (s.captureStep arr).ram = s.ram ∧ (s.captureStep arr).page = s.page ∧
    (s.captureStep arr).profileActive = s.profileActive := by
  unfold State.captureStep; simp only []; (repeat' split) <;> simp [State.page, State.profileActive]

/-- What `State.arrival` leaves as it was. -/
@[simp] theorem State.arrival_frame (s : State) (arr : Arrival) :
    (s.arrival arr).pending = s.pending ∧ (s.arrival arr).resetHeld = s.resetHeld ∧ (s.arrival arr).strapPage = s.strapPage ∧
    (s.arrival arr).links = s.links ∧ (s.arrival arr).selected = s.selected ∧ (s.arrival arr).cport = s.cport ∧
    (s.arrival arr).mport = s.mport ∧ (s.arrival arr).timecode = s.timecode ∧ (s.arrival arr).ring = s.ring ∧
    (s.arrival arr).profile = s.profile ∧ (s.arrival arr).ram = s.ram ∧ (s.arrival arr).page = s.page ∧
    (s.arrival arr).profileActive = s.profileActive := by
  simp [State.arrival, forAxes]

/-- What `State.setAssembly` leaves as it was. -/
@[simp] theorem State.setAssembly_frame (s : State) (line : Source) (asm : Assembly) :
    (s.setAssembly line asm).pending = s.pending ∧ (s.setAssembly line asm).resetHeld = s.resetHeld ∧
    (s.setAssembly line asm).strapPage = s.strapPage ∧ (s.setAssembly line asm).selected = s.selected ∧
    (s.setAssembly line asm).bias = s.bias ∧ (s.setAssembly line asm).capture = s.capture ∧
    (s.setAssembly line asm).zeroResult = s.zeroResult ∧ (s.setAssembly line asm).axes = s.axes ∧
    (s.setAssembly line asm).cport = s.cport ∧ (s.setAssembly line asm).mport = s.mport ∧
    (s.setAssembly line asm).severity = s.severity ∧ (s.setAssembly line asm).burst = s.burst ∧
    (s.setAssembly line asm).exciteResult = s.exciteResult ∧ (s.setAssembly line asm).faults = s.faults ∧
    (s.setAssembly line asm).timecode = s.timecode ∧ (s.setAssembly line asm).ring = s.ring ∧
    (s.setAssembly line asm).profile = s.profile ∧ (s.setAssembly line asm).report = s.report ∧
    (s.setAssembly line asm).ram = s.ram ∧ (s.setAssembly line asm).page = s.page ∧
    (s.setAssembly line asm).profileActive = s.profileActive := by
  simp [State.setAssembly]

/-- What `State.select` leaves as it was. -/
@[simp] theorem State.select_frame (s : State) (new : Option Source) :
    (s.select new).pending = s.pending ∧ (s.select new).resetHeld = s.resetHeld ∧ (s.select new).strapPage = s.strapPage ∧
    (s.select new).links = s.links ∧ (s.select new).bias = s.bias ∧ (s.select new).cport = s.cport ∧
    (s.select new).mport = s.mport ∧ (s.select new).severity = s.severity ∧ (s.select new).timecode = s.timecode ∧
    (s.select new).ring = s.ring ∧ (s.select new).profile = s.profile ∧ (s.select new).ram = s.ram ∧
    (s.select new).page = s.page ∧ (s.select new).profileActive = s.profileActive := by
  unfold State.select; simp only []; (repeat' split) <;> simp [State.page, State.profileActive]

/-- What `State.reviewSelection` leaves as it was. -/
@[simp] theorem State.reviewSelection_frame (s : State)  :
    (s.reviewSelection).pending = s.pending ∧ (s.reviewSelection).resetHeld = s.resetHeld ∧
    (s.reviewSelection).strapPage = s.strapPage ∧ (s.reviewSelection).links = s.links ∧ (s.reviewSelection).bias = s.bias ∧
    (s.reviewSelection).cport = s.cport ∧ (s.reviewSelection).mport = s.mport ∧ (s.reviewSelection).severity = s.severity ∧
    (s.reviewSelection).timecode = s.timecode ∧ (s.reviewSelection).ring = s.ring ∧ (s.reviewSelection).profile = s.profile ∧
    (s.reviewSelection).ram = s.ram ∧ (s.reviewSelection).page = s.page ∧
    (s.reviewSelection).profileActive = s.profileActive := by
  unfold State.reviewSelection; split <;> simp

/-- What `State.acceptFrame` leaves as it was. -/
@[simp] theorem State.acceptFrame_frame (s : State) (line : Source) (f : List Byte) :
    (s.acceptFrame line f).pending = s.pending ∧ (s.acceptFrame line f).resetHeld = s.resetHeld ∧
    (s.acceptFrame line f).strapPage = s.strapPage ∧ (s.acceptFrame line f).cport = s.cport ∧
    (s.acceptFrame line f).mport = s.mport ∧ (s.acceptFrame line f).timecode = s.timecode ∧
    (s.acceptFrame line f).ring = s.ring ∧ (s.acceptFrame line f).profile = s.profile ∧ (s.acceptFrame line f).ram = s.ram ∧
    (s.acceptFrame line f).page = s.page ∧ (s.acceptFrame line f).profileActive = s.profileActive := by
  unfold State.acceptFrame; simp only []; (repeat' split) <;> simp

/-- What `State.judgeFrame` leaves as it was. -/
@[simp] theorem State.judgeFrame_frame (s : State) (line : Source) (f : List Byte) :
    (s.judgeFrame line f).pending = s.pending ∧ (s.judgeFrame line f).resetHeld = s.resetHeld ∧
    (s.judgeFrame line f).strapPage = s.strapPage ∧ (s.judgeFrame line f).cport = s.cport ∧
    (s.judgeFrame line f).mport = s.mport ∧ (s.judgeFrame line f).timecode = s.timecode ∧
    (s.judgeFrame line f).ring = s.ring ∧ (s.judgeFrame line f).profile = s.profile ∧ (s.judgeFrame line f).ram = s.ram ∧
    (s.judgeFrame line f).page = s.page ∧ (s.judgeFrame line f).profileActive = s.profileActive := by
  unfold State.judgeFrame; (repeat' split) <;> simp

/-- What `State.checkFrame` leaves as it was. -/
@[simp] theorem State.checkFrame_frame (s : State) (line : Source) :
    (s.checkFrame line).pending = s.pending ∧ (s.checkFrame line).resetHeld = s.resetHeld ∧
    (s.checkFrame line).strapPage = s.strapPage ∧ (s.checkFrame line).cport = s.cport ∧ (s.checkFrame line).mport = s.mport ∧
    (s.checkFrame line).timecode = s.timecode ∧ (s.checkFrame line).ring = s.ring ∧ (s.checkFrame line).profile = s.profile ∧
    (s.checkFrame line).ram = s.ram ∧ (s.checkFrame line).page = s.page ∧
    (s.checkFrame line).profileActive = s.profileActive := by
  unfold State.checkFrame; split <;> simp

/-- What `State.goodByte` leaves as it was. -/
@[simp] theorem State.goodByte_frame (s : State) (line : Source) (b : Byte) :
    (s.goodByte line b).pending = s.pending ∧ (s.goodByte line b).resetHeld = s.resetHeld ∧
    (s.goodByte line b).strapPage = s.strapPage ∧ (s.goodByte line b).cport = s.cport ∧ (s.goodByte line b).mport = s.mport ∧
    (s.goodByte line b).timecode = s.timecode ∧ (s.goodByte line b).ring = s.ring ∧ (s.goodByte line b).profile = s.profile ∧
    (s.goodByte line b).ram = s.ram ∧ (s.goodByte line b).page = s.page ∧
    (s.goodByte line b).profileActive = s.profileActive := by
  simp [State.goodByte]

/-- What `State.framingError` leaves as it was. -/
@[simp] theorem State.framingError_frame (s : State) (line : Source) :
    (s.framingError line).pending = s.pending ∧ (s.framingError line).resetHeld = s.resetHeld ∧
    (s.framingError line).strapPage = s.strapPage ∧ (s.framingError line).cport = s.cport ∧
    (s.framingError line).mport = s.mport ∧ (s.framingError line).timecode = s.timecode ∧
    (s.framingError line).ring = s.ring ∧ (s.framingError line).profile = s.profile ∧ (s.framingError line).ram = s.ram ∧
    (s.framingError line).page = s.page ∧ (s.framingError line).profileActive = s.profileActive := by
  simp [State.framingError]

/-- What `State.byteTimeout` leaves as it was. -/
@[simp] theorem State.byteTimeout_frame (s : State) (line : Source) :
    (s.byteTimeout line).pending = s.pending ∧ (s.byteTimeout line).resetHeld = s.resetHeld ∧
    (s.byteTimeout line).strapPage = s.strapPage ∧ (s.byteTimeout line).cport = s.cport ∧
    (s.byteTimeout line).mport = s.mport ∧ (s.byteTimeout line).timecode = s.timecode ∧ (s.byteTimeout line).ring = s.ring ∧
    (s.byteTimeout line).profile = s.profile ∧ (s.byteTimeout line).ram = s.ram ∧ (s.byteTimeout line).page = s.page ∧
    (s.byteTimeout line).profileActive = s.profileActive := by
  simp [State.byteTimeout]

/-- What `State.staleExpiry` leaves as it was. -/
@[simp] theorem State.staleExpiry_frame (s : State) (src : Source) :
    (s.staleExpiry src).pending = s.pending ∧ (s.staleExpiry src).resetHeld = s.resetHeld ∧
    (s.staleExpiry src).strapPage = s.strapPage ∧ (s.staleExpiry src).bias = s.bias ∧ (s.staleExpiry src).cport = s.cport ∧
    (s.staleExpiry src).mport = s.mport ∧ (s.staleExpiry src).severity = s.severity ∧
    (s.staleExpiry src).timecode = s.timecode ∧ (s.staleExpiry src).ring = s.ring ∧ (s.staleExpiry src).profile = s.profile ∧
    (s.staleExpiry src).ram = s.ram ∧ (s.staleExpiry src).page = s.page ∧
    (s.staleExpiry src).profileActive = s.profileActive := by
  unfold State.staleExpiry; simp only []; (repeat' split) <;> simp

end Sys2Proof.Machine
end

