-- ==== Sys2Proof/Laws/Blocks.lean ====
section
/-! SUPPORT. What the Ring Writer, the Timecode Counter, applies and commands leave as it was. -/

namespace Sys2Proof.Machine

/-- What `State.clearSaturation` leaves as it was. -/
@[simp] theorem State.clearSaturation_frame (s : State)  :
    (s.clearSaturation).pending = s.pending ∧ (s.clearSaturation).resetHeld = s.resetHeld ∧
    (s.clearSaturation).strapPage = s.strapPage ∧ (s.clearSaturation).selected = s.selected ∧
    (s.clearSaturation).bias = s.bias ∧ (s.clearSaturation).capture = s.capture ∧
    (s.clearSaturation).zeroResult = s.zeroResult ∧ (s.clearSaturation).axes = s.axes ∧ (s.clearSaturation).cport = s.cport ∧
    (s.clearSaturation).mport = s.mport ∧ (s.clearSaturation).severity = s.severity ∧ (s.clearSaturation).burst = s.burst ∧
    (s.clearSaturation).exciteResult = s.exciteResult ∧ (s.clearSaturation).faults = s.faults ∧
    (s.clearSaturation).timecode = s.timecode ∧ (s.clearSaturation).ring = s.ring ∧ (s.clearSaturation).profile = s.profile ∧
    (s.clearSaturation).report = s.report ∧ (s.clearSaturation).ram = s.ram ∧ (s.clearSaturation).page = s.page ∧
    (s.clearSaturation).profileActive = s.profileActive := by
  simp [State.clearSaturation, State.page, State.profileActive]

/-- What `State.captureRecord` leaves as it was. -/
@[simp] theorem State.captureRecord_frame (s : State)  :
    (s.captureRecord).pending = s.pending ∧ (s.captureRecord).resetHeld = s.resetHeld ∧
    (s.captureRecord).strapPage = s.strapPage ∧ (s.captureRecord).selected = s.selected ∧ (s.captureRecord).bias = s.bias ∧
    (s.captureRecord).capture = s.capture ∧ (s.captureRecord).zeroResult = s.zeroResult ∧ (s.captureRecord).axes = s.axes ∧
    (s.captureRecord).cport = s.cport ∧ (s.captureRecord).mport = s.mport ∧ (s.captureRecord).severity = s.severity ∧
    (s.captureRecord).burst = s.burst ∧ (s.captureRecord).exciteResult = s.exciteResult ∧
    (s.captureRecord).faults = s.faults ∧ (s.captureRecord).timecode = s.timecode ∧ (s.captureRecord).profile = s.profile ∧
    (s.captureRecord).ram = s.ram ∧ (s.captureRecord).page = s.page ∧ (s.captureRecord).profileActive = s.profileActive := by
  unfold State.captureRecord; simp only []; (repeat' split) <;> simp [State.page, State.profileActive]

/-- What `State.publish` leaves as it was. -/
@[simp] theorem State.publish_frame (s : State)  :
    (s.publish).pending = s.pending ∧ (s.publish).resetHeld = s.resetHeld ∧ (s.publish).strapPage = s.strapPage ∧
    (s.publish).links = s.links ∧ (s.publish).selected = s.selected ∧ (s.publish).bias = s.bias ∧
    (s.publish).capture = s.capture ∧ (s.publish).zeroResult = s.zeroResult ∧ (s.publish).axes = s.axes ∧
    (s.publish).cport = s.cport ∧ (s.publish).mport = s.mport ∧ (s.publish).severity = s.severity ∧
    (s.publish).burst = s.burst ∧ (s.publish).exciteResult = s.exciteResult ∧ (s.publish).faults = s.faults ∧
    (s.publish).timecode = s.timecode ∧ (s.publish).profile = s.profile ∧ (s.publish).ram = s.ram ∧
    (s.publish).page = s.page ∧ (s.publish).profileActive = s.profileActive := by
  simp [State.publish, State.page, State.profileActive]

/-- What `State.ringWordWritten` leaves as it was. -/
@[simp] theorem State.ringWordWritten_frame (s : State)  :
    (s.ringWordWritten).pending = s.pending ∧ (s.ringWordWritten).resetHeld = s.resetHeld ∧
    (s.ringWordWritten).strapPage = s.strapPage ∧ (s.ringWordWritten).links = s.links ∧
    (s.ringWordWritten).selected = s.selected ∧ (s.ringWordWritten).bias = s.bias ∧ (s.ringWordWritten).capture = s.capture ∧
    (s.ringWordWritten).zeroResult = s.zeroResult ∧ (s.ringWordWritten).axes = s.axes ∧ (s.ringWordWritten).cport = s.cport ∧
    (s.ringWordWritten).mport = s.mport ∧ (s.ringWordWritten).severity = s.severity ∧ (s.ringWordWritten).burst = s.burst ∧
    (s.ringWordWritten).exciteResult = s.exciteResult ∧ (s.ringWordWritten).faults = s.faults ∧
    (s.ringWordWritten).timecode = s.timecode ∧ (s.ringWordWritten).profile = s.profile ∧ (s.ringWordWritten).ram = s.ram ∧
    (s.ringWordWritten).page = s.page ∧ (s.ringWordWritten).profileActive = s.profileActive := by
  unfold State.ringWordWritten; simp only []; (repeat' split) <;> simp [State.page, State.profileActive]

/-- What `State.moveConsumer` leaves as it was. -/
@[simp] theorem State.moveConsumer_frame (s : State) (q : Nat) :
    (s.moveConsumer q).pending = s.pending ∧ (s.moveConsumer q).resetHeld = s.resetHeld ∧
    (s.moveConsumer q).strapPage = s.strapPage ∧ (s.moveConsumer q).links = s.links ∧
    (s.moveConsumer q).selected = s.selected ∧ (s.moveConsumer q).bias = s.bias ∧ (s.moveConsumer q).capture = s.capture ∧
    (s.moveConsumer q).zeroResult = s.zeroResult ∧ (s.moveConsumer q).axes = s.axes ∧ (s.moveConsumer q).cport = s.cport ∧
    (s.moveConsumer q).mport = s.mport ∧ (s.moveConsumer q).severity = s.severity ∧ (s.moveConsumer q).burst = s.burst ∧
    (s.moveConsumer q).exciteResult = s.exciteResult ∧ (s.moveConsumer q).faults = s.faults ∧
    (s.moveConsumer q).timecode = s.timecode ∧ (s.moveConsumer q).profile = s.profile ∧ (s.moveConsumer q).ram = s.ram ∧
    (s.moveConsumer q).page = s.page ∧ (s.moveConsumer q).profileActive = s.profileActive := by
  simp [State.moveConsumer, State.page, State.profileActive]

/-- What `State.restartRing` leaves as it was. -/
@[simp] theorem State.restartRing_frame (s : State)  :
    (s.restartRing).pending = s.pending ∧ (s.restartRing).resetHeld = s.resetHeld ∧ (s.restartRing).strapPage = s.strapPage ∧
    (s.restartRing).links = s.links ∧ (s.restartRing).selected = s.selected ∧ (s.restartRing).bias = s.bias ∧
    (s.restartRing).capture = s.capture ∧ (s.restartRing).zeroResult = s.zeroResult ∧ (s.restartRing).axes = s.axes ∧
    (s.restartRing).cport = s.cport ∧ (s.restartRing).severity = s.severity ∧ (s.restartRing).burst = s.burst ∧
    (s.restartRing).exciteResult = s.exciteResult ∧ (s.restartRing).faults = s.faults ∧
    (s.restartRing).timecode = s.timecode ∧ (s.restartRing).profile = s.profile ∧ (s.restartRing).ram = s.ram ∧
    (s.restartRing).page = s.page ∧ (s.restartRing).profileActive = s.profileActive := by
  simp [State.restartRing, State.page, State.profileActive]

/-- What `State.takeUpRing` leaves as it was. -/
@[simp] theorem State.takeUpRing_frame (s : State) (old : Option Page) :
    (s.takeUpRing old).pending = s.pending ∧ (s.takeUpRing old).resetHeld = s.resetHeld ∧
    (s.takeUpRing old).strapPage = s.strapPage ∧ (s.takeUpRing old).links = s.links ∧
    (s.takeUpRing old).selected = s.selected ∧ (s.takeUpRing old).bias = s.bias ∧ (s.takeUpRing old).capture = s.capture ∧
    (s.takeUpRing old).zeroResult = s.zeroResult ∧ (s.takeUpRing old).axes = s.axes ∧ (s.takeUpRing old).cport = s.cport ∧
    (s.takeUpRing old).severity = s.severity ∧ (s.takeUpRing old).burst = s.burst ∧
    (s.takeUpRing old).exciteResult = s.exciteResult ∧ (s.takeUpRing old).faults = s.faults ∧
    (s.takeUpRing old).timecode = s.timecode ∧ (s.takeUpRing old).profile = s.profile ∧ (s.takeUpRing old).ram = s.ram ∧
    (s.takeUpRing old).page = s.page ∧ (s.takeUpRing old).profileActive = s.profileActive := by
  unfold State.takeUpRing; split <;> simp

/-- What `State.markTime` leaves as it was. -/
@[simp] theorem State.markTime_frame (s : State)  :
    (s.markTime).pending = s.pending ∧ (s.markTime).resetHeld = s.resetHeld ∧ (s.markTime).strapPage = s.strapPage ∧
    (s.markTime).links = s.links ∧ (s.markTime).selected = s.selected ∧ (s.markTime).bias = s.bias ∧
    (s.markTime).capture = s.capture ∧ (s.markTime).zeroResult = s.zeroResult ∧ (s.markTime).axes = s.axes ∧
    (s.markTime).cport = s.cport ∧ (s.markTime).mport = s.mport ∧ (s.markTime).severity = s.severity ∧
    (s.markTime).burst = s.burst ∧ (s.markTime).exciteResult = s.exciteResult ∧ (s.markTime).faults = s.faults ∧
    (s.markTime).timecode = s.timecode ∧ (s.markTime).ring = s.ring ∧ (s.markTime).profile = s.profile ∧
    (s.markTime).ram = s.ram ∧ (s.markTime).page = s.page ∧ (s.markTime).profileActive = s.profileActive := by
  simp [State.markTime]

/-- What `State.pulseTimecode` leaves as it was. -/
@[simp] theorem State.pulseTimecode_frame (s : State)  :
    (s.pulseTimecode).pending = s.pending ∧ (s.pulseTimecode).resetHeld = s.resetHeld ∧
    (s.pulseTimecode).strapPage = s.strapPage ∧ (s.pulseTimecode).links = s.links ∧ (s.pulseTimecode).selected = s.selected ∧
    (s.pulseTimecode).bias = s.bias ∧ (s.pulseTimecode).capture = s.capture ∧ (s.pulseTimecode).zeroResult = s.zeroResult ∧
    (s.pulseTimecode).axes = s.axes ∧ (s.pulseTimecode).cport = s.cport ∧ (s.pulseTimecode).mport = s.mport ∧
    (s.pulseTimecode).severity = s.severity ∧ (s.pulseTimecode).burst = s.burst ∧
    (s.pulseTimecode).exciteResult = s.exciteResult ∧ (s.pulseTimecode).faults = s.faults ∧ (s.pulseTimecode).ring = s.ring ∧
    (s.pulseTimecode).profile = s.profile ∧ (s.pulseTimecode).ram = s.ram ∧ (s.pulseTimecode).page = s.page ∧
    (s.pulseTimecode).profileActive = s.profileActive := by
  unfold State.pulseTimecode; (repeat' split) <;> simp [State.page, State.profileActive]

/-- What `State.pulseFrameLost` leaves as it was. -/
@[simp] theorem State.pulseFrameLost_frame (s : State)  :
    (s.pulseFrameLost).pending = s.pending ∧ (s.pulseFrameLost).resetHeld = s.resetHeld ∧
    (s.pulseFrameLost).strapPage = s.strapPage ∧ (s.pulseFrameLost).links = s.links ∧
    (s.pulseFrameLost).selected = s.selected ∧ (s.pulseFrameLost).bias = s.bias ∧ (s.pulseFrameLost).capture = s.capture ∧
    (s.pulseFrameLost).zeroResult = s.zeroResult ∧ (s.pulseFrameLost).axes = s.axes ∧ (s.pulseFrameLost).cport = s.cport ∧
    (s.pulseFrameLost).mport = s.mport ∧ (s.pulseFrameLost).severity = s.severity ∧ (s.pulseFrameLost).burst = s.burst ∧
    (s.pulseFrameLost).exciteResult = s.exciteResult ∧ (s.pulseFrameLost).ring = s.ring ∧
    (s.pulseFrameLost).profile = s.profile ∧ (s.pulseFrameLost).ram = s.ram ∧ (s.pulseFrameLost).page = s.page ∧
    (s.pulseFrameLost).profileActive = s.profileActive := by
  unfold State.pulseFrameLost; split <;> simp [State.page, State.profileActive]

/-- What `State.framePulse` leaves as it was. -/
@[simp] theorem State.framePulse_frame (s : State)  :
    (s.framePulse).pending = s.pending ∧ (s.framePulse).resetHeld = s.resetHeld ∧ (s.framePulse).strapPage = s.strapPage ∧
    (s.framePulse).selected = s.selected ∧ (s.framePulse).bias = s.bias ∧ (s.framePulse).capture = s.capture ∧
    (s.framePulse).zeroResult = s.zeroResult ∧ (s.framePulse).axes = s.axes ∧ (s.framePulse).cport = s.cport ∧
    (s.framePulse).mport = s.mport ∧ (s.framePulse).severity = s.severity ∧ (s.framePulse).burst = s.burst ∧
    (s.framePulse).exciteResult = s.exciteResult ∧ (s.framePulse).profile = s.profile ∧ (s.framePulse).ram = s.ram ∧
    (s.framePulse).page = s.page ∧ (s.framePulse).profileActive = s.profileActive := by
  simp [State.framePulse]

/-- What `State.frameLostExpiry` leaves as it was. -/
@[simp] theorem State.frameLostExpiry_frame (s : State)  :
    (s.frameLostExpiry).pending = s.pending ∧ (s.frameLostExpiry).resetHeld = s.resetHeld ∧
    (s.frameLostExpiry).strapPage = s.strapPage ∧ (s.frameLostExpiry).links = s.links ∧
    (s.frameLostExpiry).selected = s.selected ∧ (s.frameLostExpiry).bias = s.bias ∧ (s.frameLostExpiry).capture = s.capture ∧
    (s.frameLostExpiry).zeroResult = s.zeroResult ∧ (s.frameLostExpiry).axes = s.axes ∧ (s.frameLostExpiry).cport = s.cport ∧
    (s.frameLostExpiry).mport = s.mport ∧ (s.frameLostExpiry).severity = s.severity ∧ (s.frameLostExpiry).burst = s.burst ∧
    (s.frameLostExpiry).exciteResult = s.exciteResult ∧ (s.frameLostExpiry).ring = s.ring ∧
    (s.frameLostExpiry).profile = s.profile ∧ (s.frameLostExpiry).ram = s.ram ∧ (s.frameLostExpiry).page = s.page ∧
    (s.frameLostExpiry).profileActive = s.profileActive := by
  unfold State.frameLostExpiry; split <;> simp [State.page, State.profileActive]

/-- What `State.takeUpRate` leaves as it was. -/
@[simp] theorem State.takeUpRate_frame (s : State)  :
    (s.takeUpRate).pending = s.pending ∧ (s.takeUpRate).resetHeld = s.resetHeld ∧ (s.takeUpRate).strapPage = s.strapPage ∧
    (s.takeUpRate).links = s.links ∧ (s.takeUpRate).selected = s.selected ∧ (s.takeUpRate).bias = s.bias ∧
    (s.takeUpRate).capture = s.capture ∧ (s.takeUpRate).zeroResult = s.zeroResult ∧ (s.takeUpRate).axes = s.axes ∧
    (s.takeUpRate).cport = s.cport ∧ (s.takeUpRate).mport = s.mport ∧ (s.takeUpRate).severity = s.severity ∧
    (s.takeUpRate).burst = s.burst ∧ (s.takeUpRate).exciteResult = s.exciteResult ∧ (s.takeUpRate).faults = s.faults ∧
    (s.takeUpRate).ring = s.ring ∧ (s.takeUpRate).profile = s.profile ∧ (s.takeUpRate).ram = s.ram ∧
    (s.takeUpRate).page = s.page ∧ (s.takeUpRate).profileActive = s.profileActive := by
  unfold State.takeUpRate; (repeat' split) <;> simp [State.page, State.profileActive]

/-- What `State.rebindQueue` leaves as it was. -/
@[simp] theorem State.rebindQueue_frame (s : State)  :
    (s.rebindQueue).pending = s.pending ∧ (s.rebindQueue).resetHeld = s.resetHeld ∧ (s.rebindQueue).strapPage = s.strapPage ∧
    (s.rebindQueue).links = s.links ∧ (s.rebindQueue).selected = s.selected ∧ (s.rebindQueue).bias = s.bias ∧
    (s.rebindQueue).capture = s.capture ∧ (s.rebindQueue).zeroResult = s.zeroResult ∧ (s.rebindQueue).axes = s.axes ∧
    (s.rebindQueue).mport = s.mport ∧ (s.rebindQueue).severity = s.severity ∧ (s.rebindQueue).burst = s.burst ∧
    (s.rebindQueue).exciteResult = s.exciteResult ∧ (s.rebindQueue).faults = s.faults ∧
    (s.rebindQueue).timecode = s.timecode ∧ (s.rebindQueue).ring = s.ring ∧ (s.rebindQueue).profile = s.profile ∧
    (s.rebindQueue).report = s.report ∧ (s.rebindQueue).ram = s.ram ∧ (s.rebindQueue).page = s.page ∧
    (s.rebindQueue).profileActive = s.profileActive := by
  simp [State.rebindQueue, State.page, State.profileActive]

/-- What `State.unsetAddresses` leaves as it was. -/
@[simp] theorem State.unsetAddresses_frame (s : State)  :
    (s.unsetAddresses).pending = s.pending ∧ (s.unsetAddresses).resetHeld = s.resetHeld ∧
    (s.unsetAddresses).strapPage = s.strapPage ∧ (s.unsetAddresses).links = s.links ∧
    (s.unsetAddresses).selected = s.selected ∧ (s.unsetAddresses).bias = s.bias ∧ (s.unsetAddresses).capture = s.capture ∧
    (s.unsetAddresses).zeroResult = s.zeroResult ∧ (s.unsetAddresses).cport = s.cport ∧ (s.unsetAddresses).mport = s.mport ∧
    (s.unsetAddresses).severity = s.severity ∧ (s.unsetAddresses).burst = s.burst ∧
    (s.unsetAddresses).exciteResult = s.exciteResult ∧ (s.unsetAddresses).faults = s.faults ∧
    (s.unsetAddresses).timecode = s.timecode ∧ (s.unsetAddresses).ring = s.ring ∧ (s.unsetAddresses).profile = s.profile ∧
    (s.unsetAddresses).report = s.report ∧ (s.unsetAddresses).ram = s.ram ∧ (s.unsetAddresses).page = s.page ∧
    (s.unsetAddresses).profileActive = s.profileActive := by
  simp [State.unsetAddresses, forAxes]

/-- What `State.takeUpTable` leaves as it was. -/
@[simp] theorem State.takeUpTable_frame (s : State) (old : Option Page) :
    (s.takeUpTable old).pending = s.pending ∧ (s.takeUpTable old).resetHeld = s.resetHeld ∧
    (s.takeUpTable old).strapPage = s.strapPage ∧ (s.takeUpTable old).links = s.links ∧
    (s.takeUpTable old).selected = s.selected ∧ (s.takeUpTable old).bias = s.bias ∧ (s.takeUpTable old).capture = s.capture ∧
    (s.takeUpTable old).zeroResult = s.zeroResult ∧ (s.takeUpTable old).mport = s.mport ∧
    (s.takeUpTable old).severity = s.severity ∧ (s.takeUpTable old).burst = s.burst ∧
    (s.takeUpTable old).exciteResult = s.exciteResult ∧ (s.takeUpTable old).faults = s.faults ∧
    (s.takeUpTable old).timecode = s.timecode ∧ (s.takeUpTable old).ring = s.ring ∧ (s.takeUpTable old).profile = s.profile ∧
    (s.takeUpTable old).report = s.report ∧ (s.takeUpTable old).ram = s.ram ∧ (s.takeUpTable old).page = s.page ∧
    (s.takeUpTable old).profileActive = s.profileActive := by
  unfold State.takeUpTable; split <;> simp

/-- What `State.clearRefreshCounts` leaves as it was. -/
@[simp] theorem State.clearRefreshCounts_frame (s : State)  :
    (s.clearRefreshCounts).pending = s.pending ∧ (s.clearRefreshCounts).resetHeld = s.resetHeld ∧
    (s.clearRefreshCounts).strapPage = s.strapPage ∧ (s.clearRefreshCounts).links = s.links ∧
    (s.clearRefreshCounts).selected = s.selected ∧ (s.clearRefreshCounts).bias = s.bias ∧
    (s.clearRefreshCounts).capture = s.capture ∧ (s.clearRefreshCounts).zeroResult = s.zeroResult ∧
    (s.clearRefreshCounts).cport = s.cport ∧ (s.clearRefreshCounts).mport = s.mport ∧
    (s.clearRefreshCounts).severity = s.severity ∧ (s.clearRefreshCounts).burst = s.burst ∧
    (s.clearRefreshCounts).exciteResult = s.exciteResult ∧ (s.clearRefreshCounts).faults = s.faults ∧
    (s.clearRefreshCounts).timecode = s.timecode ∧ (s.clearRefreshCounts).ring = s.ring ∧
    (s.clearRefreshCounts).profile = s.profile ∧ (s.clearRefreshCounts).report = s.report ∧
    (s.clearRefreshCounts).ram = s.ram ∧ (s.clearRefreshCounts).page = s.page ∧
    (s.clearRefreshCounts).profileActive = s.profileActive := by
  simp [State.clearRefreshCounts, forAxes]

/-- What `State.takeUpFaults` leaves as it was. -/
@[simp] theorem State.takeUpFaults_frame (s : State) (old : Option Page) :
    (s.takeUpFaults old).pending = s.pending ∧ (s.takeUpFaults old).resetHeld = s.resetHeld ∧
    (s.takeUpFaults old).strapPage = s.strapPage ∧ (s.takeUpFaults old).links = s.links ∧
    (s.takeUpFaults old).selected = s.selected ∧ (s.takeUpFaults old).bias = s.bias ∧
    (s.takeUpFaults old).capture = s.capture ∧ (s.takeUpFaults old).zeroResult = s.zeroResult ∧
    (s.takeUpFaults old).cport = s.cport ∧ (s.takeUpFaults old).mport = s.mport ∧
    (s.takeUpFaults old).severity = s.severity ∧ (s.takeUpFaults old).timecode = s.timecode ∧
    (s.takeUpFaults old).ring = s.ring ∧ (s.takeUpFaults old).profile = s.profile ∧ (s.takeUpFaults old).ram = s.ram ∧
    (s.takeUpFaults old).page = s.page ∧ (s.takeUpFaults old).profileActive = s.profileActive := by
  unfold State.takeUpFaults; simp only []; split <;> simp

/-- What `State.activateProfile` leaves as it was. -/
@[simp] theorem State.activateProfile_frame (s : State)  :
    (s.activateProfile).pending = s.pending ∧ (s.activateProfile).resetHeld = s.resetHeld ∧
    (s.activateProfile).strapPage = s.strapPage ∧ (s.activateProfile).links = s.links ∧
    (s.activateProfile).selected = s.selected ∧ (s.activateProfile).bias = s.bias ∧ (s.activateProfile).capture = s.capture ∧
    (s.activateProfile).zeroResult = s.zeroResult ∧ (s.activateProfile).axes = s.axes ∧ (s.activateProfile).cport = s.cport ∧
    (s.activateProfile).mport = s.mport ∧ (s.activateProfile).severity = s.severity ∧ (s.activateProfile).burst = s.burst ∧
    (s.activateProfile).exciteResult = s.exciteResult ∧ (s.activateProfile).faults = s.faults ∧
    (s.activateProfile).timecode = s.timecode ∧ (s.activateProfile).ring = s.ring ∧ (s.activateProfile).ram = s.ram := by
  simp [State.activateProfile]

/-- What `State.takeUpProfile` leaves as it was. -/
@[simp] theorem State.takeUpProfile_frame (s : State)  :
    (s.takeUpProfile).pending = s.pending ∧ (s.takeUpProfile).resetHeld = s.resetHeld ∧
    (s.takeUpProfile).strapPage = s.strapPage ∧ (s.takeUpProfile).links = s.links ∧ (s.takeUpProfile).bias = s.bias ∧
    (s.takeUpProfile).ram = s.ram := by
  simp [State.takeUpProfile]

/-- What `State.applyRequest` leaves as it was. -/
@[simp] theorem State.applyRequest_frame (s : State)  :
    (s.applyRequest).pending = s.pending ∧ (s.applyRequest).resetHeld = s.resetHeld ∧
    (s.applyRequest).strapPage = s.strapPage ∧ (s.applyRequest).links = s.links ∧ (s.applyRequest).bias = s.bias ∧
    (s.applyRequest).ram = s.ram := by
  unfold State.applyRequest; simp only []; split <;> simp

/-- What `State.markAxisWords` leaves as it was. -/
@[simp] theorem State.markAxisWords_frame (s : State) (a : AxisId) :
    (s.markAxisWords a).pending = s.pending ∧ (s.markAxisWords a).resetHeld = s.resetHeld ∧
    (s.markAxisWords a).strapPage = s.strapPage ∧ (s.markAxisWords a).links = s.links ∧
    (s.markAxisWords a).selected = s.selected ∧ (s.markAxisWords a).bias = s.bias ∧ (s.markAxisWords a).capture = s.capture ∧
    (s.markAxisWords a).zeroResult = s.zeroResult ∧ (s.markAxisWords a).axes = s.axes ∧ (s.markAxisWords a).cport = s.cport ∧
    (s.markAxisWords a).mport = s.mport ∧ (s.markAxisWords a).severity = s.severity ∧ (s.markAxisWords a).burst = s.burst ∧
    (s.markAxisWords a).exciteResult = s.exciteResult ∧ (s.markAxisWords a).faults = s.faults ∧
    (s.markAxisWords a).timecode = s.timecode ∧ (s.markAxisWords a).ring = s.ring ∧ (s.markAxisWords a).profile = s.profile ∧
    (s.markAxisWords a).ram = s.ram ∧ (s.markAxisWords a).page = s.page ∧
    (s.markAxisWords a).profileActive = s.profileActive := by
  simp [State.markAxisWords]

/-- What `State.startAxis` leaves as it was. -/
@[simp] theorem State.startAxis_frame (s : State) (a : AxisId) :
    (s.startAxis a).pending = s.pending ∧ (s.startAxis a).resetHeld = s.resetHeld ∧ (s.startAxis a).strapPage = s.strapPage ∧
    (s.startAxis a).links = s.links ∧ (s.startAxis a).selected = s.selected ∧ (s.startAxis a).bias = s.bias ∧
    (s.startAxis a).capture = s.capture ∧ (s.startAxis a).zeroResult = s.zeroResult ∧ (s.startAxis a).cport = s.cport ∧
    (s.startAxis a).mport = s.mport ∧ (s.startAxis a).severity = s.severity ∧ (s.startAxis a).timecode = s.timecode ∧
    (s.startAxis a).ring = s.ring ∧ (s.startAxis a).profile = s.profile ∧ (s.startAxis a).ram = s.ram ∧
    (s.startAxis a).page = s.page ∧ (s.startAxis a).profileActive = s.profileActive := by
  simp [State.startAxis]

/-- What `State.stopAxis` leaves as it was. -/
@[simp] theorem State.stopAxis_frame (s : State) (a : AxisId) :
    (s.stopAxis a).pending = s.pending ∧ (s.stopAxis a).resetHeld = s.resetHeld ∧ (s.stopAxis a).strapPage = s.strapPage ∧
    (s.stopAxis a).links = s.links ∧ (s.stopAxis a).selected = s.selected ∧ (s.stopAxis a).bias = s.bias ∧
    (s.stopAxis a).capture = s.capture ∧ (s.stopAxis a).zeroResult = s.zeroResult ∧ (s.stopAxis a).cport = s.cport ∧
    (s.stopAxis a).mport = s.mport ∧ (s.stopAxis a).severity = s.severity ∧ (s.stopAxis a).timecode = s.timecode ∧
    (s.stopAxis a).ring = s.ring ∧ (s.stopAxis a).profile = s.profile ∧ (s.stopAxis a).ram = s.ram ∧
    (s.stopAxis a).page = s.page ∧ (s.stopAxis a).profileActive = s.profileActive := by
  simp [State.stopAxis]

/-- What `State.releaseAxis` leaves as it was. -/
@[simp] theorem State.releaseAxis_frame (s : State) (a : AxisId) :
    (s.releaseAxis a).pending = s.pending ∧ (s.releaseAxis a).resetHeld = s.resetHeld ∧
    (s.releaseAxis a).strapPage = s.strapPage ∧ (s.releaseAxis a).links = s.links ∧ (s.releaseAxis a).selected = s.selected ∧
    (s.releaseAxis a).bias = s.bias ∧ (s.releaseAxis a).capture = s.capture ∧ (s.releaseAxis a).zeroResult = s.zeroResult ∧
    (s.releaseAxis a).cport = s.cport ∧ (s.releaseAxis a).mport = s.mport ∧ (s.releaseAxis a).severity = s.severity ∧
    (s.releaseAxis a).timecode = s.timecode ∧ (s.releaseAxis a).ring = s.ring ∧ (s.releaseAxis a).profile = s.profile ∧
    (s.releaseAxis a).ram = s.ram ∧ (s.releaseAxis a).page = s.page ∧ (s.releaseAxis a).profileActive = s.profileActive := by
  simp [State.releaseAxis]

/-- What `startCommand` leaves as it was. -/
@[simp] theorem startCommand_frame (s : State) (a : AxisId) :
    (startCommand a s).2.pending = s.pending ∧ (startCommand a s).2.resetHeld = s.resetHeld ∧
    (startCommand a s).2.strapPage = s.strapPage ∧ (startCommand a s).2.links = s.links ∧
    (startCommand a s).2.selected = s.selected ∧ (startCommand a s).2.bias = s.bias ∧
    (startCommand a s).2.capture = s.capture ∧ (startCommand a s).2.zeroResult = s.zeroResult ∧
    (startCommand a s).2.cport = s.cport ∧ (startCommand a s).2.mport = s.mport ∧
    (startCommand a s).2.severity = s.severity ∧ (startCommand a s).2.timecode = s.timecode ∧
    (startCommand a s).2.ring = s.ring ∧ (startCommand a s).2.profile = s.profile ∧ (startCommand a s).2.ram = s.ram ∧
    (startCommand a s).2.page = s.page ∧ (startCommand a s).2.profileActive = s.profileActive := by
  unfold startCommand; (repeat' split) <;> simp

/-- What `stopCommand` leaves as it was. -/
@[simp] theorem stopCommand_frame (s : State) (a : AxisId) :
    (stopCommand a s).2.pending = s.pending ∧ (stopCommand a s).2.resetHeld = s.resetHeld ∧
    (stopCommand a s).2.strapPage = s.strapPage ∧ (stopCommand a s).2.links = s.links ∧
    (stopCommand a s).2.selected = s.selected ∧ (stopCommand a s).2.bias = s.bias ∧ (stopCommand a s).2.capture = s.capture ∧
    (stopCommand a s).2.zeroResult = s.zeroResult ∧ (stopCommand a s).2.cport = s.cport ∧
    (stopCommand a s).2.mport = s.mport ∧ (stopCommand a s).2.severity = s.severity ∧
    (stopCommand a s).2.timecode = s.timecode ∧ (stopCommand a s).2.ring = s.ring ∧ (stopCommand a s).2.profile = s.profile ∧
    (stopCommand a s).2.ram = s.ram ∧ (stopCommand a s).2.page = s.page ∧
    (stopCommand a s).2.profileActive = s.profileActive := by
  unfold stopCommand; (repeat' split) <;> simp

/-- What `parkCommand` leaves as it was. -/
@[simp] theorem parkCommand_frame (s : State) (a : AxisId) :
    (parkCommand a s).2.pending = s.pending ∧ (parkCommand a s).2.resetHeld = s.resetHeld ∧
    (parkCommand a s).2.strapPage = s.strapPage ∧ (parkCommand a s).2.links = s.links ∧
    (parkCommand a s).2.selected = s.selected ∧ (parkCommand a s).2.bias = s.bias ∧ (parkCommand a s).2.capture = s.capture ∧
    (parkCommand a s).2.zeroResult = s.zeroResult ∧ (parkCommand a s).2.cport = s.cport ∧
    (parkCommand a s).2.mport = s.mport ∧ (parkCommand a s).2.severity = s.severity ∧
    (parkCommand a s).2.timecode = s.timecode ∧ (parkCommand a s).2.ring = s.ring ∧ (parkCommand a s).2.profile = s.profile ∧
    (parkCommand a s).2.ram = s.ram ∧ (parkCommand a s).2.page = s.page ∧
    (parkCommand a s).2.profileActive = s.profileActive := by
  unfold parkCommand; (repeat' split) <;> simp

/-- What `releaseCommand` leaves as it was. -/
@[simp] theorem releaseCommand_frame (s : State) (a : AxisId) :
    (releaseCommand a s).2.pending = s.pending ∧ (releaseCommand a s).2.resetHeld = s.resetHeld ∧
    (releaseCommand a s).2.strapPage = s.strapPage ∧ (releaseCommand a s).2.links = s.links ∧
    (releaseCommand a s).2.selected = s.selected ∧ (releaseCommand a s).2.bias = s.bias ∧
    (releaseCommand a s).2.capture = s.capture ∧ (releaseCommand a s).2.zeroResult = s.zeroResult ∧
    (releaseCommand a s).2.cport = s.cport ∧ (releaseCommand a s).2.mport = s.mport ∧
    (releaseCommand a s).2.severity = s.severity ∧ (releaseCommand a s).2.timecode = s.timecode ∧
    (releaseCommand a s).2.ring = s.ring ∧ (releaseCommand a s).2.profile = s.profile ∧ (releaseCommand a s).2.ram = s.ram ∧
    (releaseCommand a s).2.page = s.page ∧ (releaseCommand a s).2.profileActive = s.profileActive := by
  unfold releaseCommand; (repeat' split) <;> simp

/-- What `zeroCommand` leaves as it was. -/
@[simp] theorem zeroCommand_frame (s : State)  :
    (zeroCommand s).2.pending = s.pending ∧ (zeroCommand s).2.resetHeld = s.resetHeld ∧
    (zeroCommand s).2.strapPage = s.strapPage ∧ (zeroCommand s).2.links = s.links ∧ (zeroCommand s).2.selected = s.selected ∧
    (zeroCommand s).2.bias = s.bias ∧ (zeroCommand s).2.axes = s.axes ∧ (zeroCommand s).2.cport = s.cport ∧
    (zeroCommand s).2.mport = s.mport ∧ (zeroCommand s).2.severity = s.severity ∧ (zeroCommand s).2.burst = s.burst ∧
    (zeroCommand s).2.exciteResult = s.exciteResult ∧ (zeroCommand s).2.faults = s.faults ∧
    (zeroCommand s).2.timecode = s.timecode ∧ (zeroCommand s).2.ring = s.ring ∧ (zeroCommand s).2.profile = s.profile ∧
    (zeroCommand s).2.ram = s.ram ∧ (zeroCommand s).2.page = s.page ∧ (zeroCommand s).2.profileActive = s.profileActive := by
  unfold zeroCommand; (repeat' split) <;> simp [State.page, State.profileActive]

/-- What `exciteCommand` leaves as it was. -/
@[simp] theorem exciteCommand_frame (s : State)  :
    (exciteCommand s).2.pending = s.pending ∧ (exciteCommand s).2.resetHeld = s.resetHeld ∧
    (exciteCommand s).2.strapPage = s.strapPage ∧ (exciteCommand s).2.links = s.links ∧
    (exciteCommand s).2.selected = s.selected ∧ (exciteCommand s).2.bias = s.bias ∧ (exciteCommand s).2.capture = s.capture ∧
    (exciteCommand s).2.zeroResult = s.zeroResult ∧ (exciteCommand s).2.axes = s.axes ∧ (exciteCommand s).2.cport = s.cport ∧
    (exciteCommand s).2.mport = s.mport ∧ (exciteCommand s).2.severity = s.severity ∧ (exciteCommand s).2.faults = s.faults ∧
    (exciteCommand s).2.timecode = s.timecode ∧ (exciteCommand s).2.ring = s.ring ∧ (exciteCommand s).2.profile = s.profile ∧
    (exciteCommand s).2.ram = s.ram ∧ (exciteCommand s).2.page = s.page ∧
    (exciteCommand s).2.profileActive = s.profileActive := by
  unfold exciteCommand; simp only []; (repeat' split) <;> simp [State.page, State.profileActive]

/-- What `tcSetCommand` leaves as it was. -/
@[simp] theorem tcSetCommand_frame (s : State)  :
    (tcSetCommand s).2.pending = s.pending ∧ (tcSetCommand s).2.resetHeld = s.resetHeld ∧
    (tcSetCommand s).2.strapPage = s.strapPage ∧ (tcSetCommand s).2.links = s.links ∧
    (tcSetCommand s).2.selected = s.selected ∧ (tcSetCommand s).2.bias = s.bias ∧ (tcSetCommand s).2.capture = s.capture ∧
    (tcSetCommand s).2.zeroResult = s.zeroResult ∧ (tcSetCommand s).2.axes = s.axes ∧ (tcSetCommand s).2.cport = s.cport ∧
    (tcSetCommand s).2.mport = s.mport ∧ (tcSetCommand s).2.severity = s.severity ∧ (tcSetCommand s).2.burst = s.burst ∧
    (tcSetCommand s).2.exciteResult = s.exciteResult ∧ (tcSetCommand s).2.faults = s.faults ∧
    (tcSetCommand s).2.ring = s.ring ∧ (tcSetCommand s).2.profile = s.profile ∧ (tcSetCommand s).2.ram = s.ram ∧
    (tcSetCommand s).2.page = s.page ∧ (tcSetCommand s).2.profileActive = s.profileActive := by
  unfold tcSetCommand; simp only []; (repeat' split) <;> simp [State.page, State.profileActive]

/-- What `sourceReturnCommand` leaves as it was. -/
@[simp] theorem sourceReturnCommand_frame (s : State)  :
    (sourceReturnCommand s).2.pending = s.pending ∧ (sourceReturnCommand s).2.resetHeld = s.resetHeld ∧
    (sourceReturnCommand s).2.strapPage = s.strapPage ∧ (sourceReturnCommand s).2.links = s.links ∧
    (sourceReturnCommand s).2.bias = s.bias ∧ (sourceReturnCommand s).2.cport = s.cport ∧
    (sourceReturnCommand s).2.mport = s.mport ∧ (sourceReturnCommand s).2.severity = s.severity ∧
    (sourceReturnCommand s).2.timecode = s.timecode ∧ (sourceReturnCommand s).2.ring = s.ring ∧
    (sourceReturnCommand s).2.profile = s.profile ∧ (sourceReturnCommand s).2.ram = s.ram ∧
    (sourceReturnCommand s).2.page = s.page ∧ (sourceReturnCommand s).2.profileActive = s.profileActive := by
  unfold sourceReturnCommand; (repeat' split) <;> simp

/-- What `runCommand` leaves as it was. -/
@[simp] theorem runCommand_frame (code operand : Byte) (s : State) :
   (runCommand code operand s).2.pending = s.pending ∧
    (runCommand code operand s).2.resetHeld = s.resetHeld ∧
    (runCommand code operand s).2.strapPage = s.strapPage ∧
    (runCommand code operand s).2.links = s.links ∧
    (runCommand code operand s).2.bias = s.bias ∧
    (runCommand code operand s).2.cport = s.cport ∧
    (runCommand code operand s).2.mport = s.mport ∧
    (runCommand code operand s).2.severity = s.severity ∧
    (runCommand code operand s).2.ring = s.ring ∧
    (runCommand code operand s).2.profile = s.profile ∧
    (runCommand code operand s).2.ram = s.ram ∧
    (runCommand code operand s).2.page = s.page ∧
    (runCommand code operand s).2.profileActive = s.profileActive := by
  unfold runCommand ownerCommand; (repeat' split) <;> simp

/-- What `State.reportCommand` leaves as it was. -/
@[simp] theorem State.reportCommand_frame (s : State) (code : Byte) (r : CmdResult) :
    (s.reportCommand code r).pending = s.pending ∧ (s.reportCommand code r).resetHeld = s.resetHeld ∧
    (s.reportCommand code r).strapPage = s.strapPage ∧ (s.reportCommand code r).links = s.links ∧
    (s.reportCommand code r).selected = s.selected ∧ (s.reportCommand code r).bias = s.bias ∧
    (s.reportCommand code r).capture = s.capture ∧ (s.reportCommand code r).zeroResult = s.zeroResult ∧
    (s.reportCommand code r).axes = s.axes ∧ (s.reportCommand code r).cport = s.cport ∧
    (s.reportCommand code r).mport = s.mport ∧ (s.reportCommand code r).severity = s.severity ∧
    (s.reportCommand code r).burst = s.burst ∧ (s.reportCommand code r).exciteResult = s.exciteResult ∧
    (s.reportCommand code r).faults = s.faults ∧ (s.reportCommand code r).timecode = s.timecode ∧
    (s.reportCommand code r).ring = s.ring ∧ (s.reportCommand code r).ram = s.ram := by
  simp [State.reportCommand]

/-- What `State.command` leaves as it was. -/
@[simp] theorem State.command_frame (s : State) (w : Word) :
    (s.command w).pending = s.pending ∧ (s.command w).resetHeld = s.resetHeld ∧ (s.command w).strapPage = s.strapPage ∧
    (s.command w).links = s.links ∧ (s.command w).bias = s.bias ∧ (s.command w).cport = s.cport ∧
    (s.command w).mport = s.mport ∧ (s.command w).severity = s.severity ∧ (s.command w).ring = s.ring ∧
    (s.command w).ram = s.ram := by
  unfold State.command; simp only []; split <;> simp

end Sys2Proof.Machine
end

