-- ==== Sys2Proof/Laws/Ports.lean ====
section
/-! SUPPORT. What the C-port and the M-port leave as it was. -/

namespace Sys2Proof.Machine

/-- What `State.enqueue` leaves as it was. -/
@[simp] theorem State.enqueue_frame (s : State) (t : BusTxn) (bind : Option AxisId) :
    (s.enqueue t bind).pending = s.pending ∧ (s.enqueue t bind).resetHeld = s.resetHeld ∧
    (s.enqueue t bind).strapPage = s.strapPage ∧ (s.enqueue t bind).links = s.links ∧
    (s.enqueue t bind).selected = s.selected ∧ (s.enqueue t bind).bias = s.bias ∧ (s.enqueue t bind).capture = s.capture ∧
    (s.enqueue t bind).zeroResult = s.zeroResult ∧ (s.enqueue t bind).axes = s.axes ∧ (s.enqueue t bind).mport = s.mport ∧
    (s.enqueue t bind).severity = s.severity ∧ (s.enqueue t bind).burst = s.burst ∧
    (s.enqueue t bind).exciteResult = s.exciteResult ∧ (s.enqueue t bind).faults = s.faults ∧
    (s.enqueue t bind).timecode = s.timecode ∧ (s.enqueue t bind).ring = s.ring ∧ (s.enqueue t bind).profile = s.profile ∧
    (s.enqueue t bind).report = s.report ∧ (s.enqueue t bind).ram = s.ram ∧ (s.enqueue t bind).page = s.page ∧
    (s.enqueue t bind).profileActive = s.profileActive := by
  simp [State.enqueue, State.page, State.profileActive]

/-- What `State.stray` leaves as it was. -/
@[simp] theorem State.stray_frame (s : State)  :
    (s.stray).pending = s.pending ∧ (s.stray).resetHeld = s.resetHeld ∧ (s.stray).strapPage = s.strapPage ∧
    (s.stray).links = s.links ∧ (s.stray).selected = s.selected ∧ (s.stray).bias = s.bias ∧ (s.stray).capture = s.capture ∧
    (s.stray).zeroResult = s.zeroResult ∧ (s.stray).axes = s.axes ∧ (s.stray).cport = s.cport ∧ (s.stray).mport = s.mport ∧
    (s.stray).severity = s.severity ∧ (s.stray).burst = s.burst ∧ (s.stray).exciteResult = s.exciteResult ∧
    (s.stray).faults = s.faults ∧ (s.stray).timecode = s.timecode ∧ (s.stray).ring = s.ring ∧ (s.stray).profile = s.profile ∧
    (s.stray).ram = s.ram ∧ (s.stray).page = s.page ∧ (s.stray).profileActive = s.profileActive := by
  simp [State.stray]

/-- What `State.mergeShadow` leaves as it was. -/
@[simp] theorem State.mergeShadow_frame (s : State) (w : Offset) (data : Word) (lanes : Lanes) :
    (s.mergeShadow w data lanes).pending = s.pending ∧ (s.mergeShadow w data lanes).resetHeld = s.resetHeld ∧
    (s.mergeShadow w data lanes).strapPage = s.strapPage ∧ (s.mergeShadow w data lanes).links = s.links ∧
    (s.mergeShadow w data lanes).selected = s.selected ∧ (s.mergeShadow w data lanes).bias = s.bias ∧
    (s.mergeShadow w data lanes).capture = s.capture ∧ (s.mergeShadow w data lanes).zeroResult = s.zeroResult ∧
    (s.mergeShadow w data lanes).axes = s.axes ∧ (s.mergeShadow w data lanes).cport = s.cport ∧
    (s.mergeShadow w data lanes).mport = s.mport ∧ (s.mergeShadow w data lanes).severity = s.severity ∧
    (s.mergeShadow w data lanes).burst = s.burst ∧ (s.mergeShadow w data lanes).exciteResult = s.exciteResult ∧
    (s.mergeShadow w data lanes).faults = s.faults ∧ (s.mergeShadow w data lanes).timecode = s.timecode ∧
    (s.mergeShadow w data lanes).ring = s.ring ∧ (s.mergeShadow w data lanes).report = s.report ∧
    (s.mergeShadow w data lanes).ram = s.ram := by
  simp [State.mergeShadow]

/-- What `State.handOn` leaves as it was. -/
@[simp] theorem State.handOn_frame (s : State) (w : Offset) :
    (s.handOn w).pending = s.pending ∧ (s.handOn w).resetHeld = s.resetHeld ∧ (s.handOn w).strapPage = s.strapPage ∧
    (s.handOn w).links = s.links ∧ (s.handOn w).bias = s.bias ∧ (s.handOn w).ram = s.ram := by
  unfold State.handOn; (repeat' split) <;> simp

/-- What `State.consumerWrite` leaves as it was. -/
@[simp] theorem State.consumerWrite_frame (s : State) (addr : Addr) (data : Word) (lanes : Lanes) :
    (s.consumerWrite addr data lanes).pending = s.pending ∧ (s.consumerWrite addr data lanes).resetHeld = s.resetHeld ∧
    (s.consumerWrite addr data lanes).strapPage = s.strapPage ∧ (s.consumerWrite addr data lanes).links = s.links ∧
    (s.consumerWrite addr data lanes).selected = s.selected ∧ (s.consumerWrite addr data lanes).bias = s.bias ∧
    (s.consumerWrite addr data lanes).capture = s.capture ∧ (s.consumerWrite addr data lanes).zeroResult = s.zeroResult ∧
    (s.consumerWrite addr data lanes).axes = s.axes ∧ (s.consumerWrite addr data lanes).mport = s.mport ∧
    (s.consumerWrite addr data lanes).severity = s.severity ∧ (s.consumerWrite addr data lanes).burst = s.burst ∧
    (s.consumerWrite addr data lanes).exciteResult = s.exciteResult ∧ (s.consumerWrite addr data lanes).faults = s.faults ∧
    (s.consumerWrite addr data lanes).timecode = s.timecode ∧ (s.consumerWrite addr data lanes).profile = s.profile ∧
    (s.consumerWrite addr data lanes).ram = s.ram ∧ (s.consumerWrite addr data lanes).page = s.page ∧
    (s.consumerWrite addr data lanes).profileActive = s.profileActive := by
  unfold State.consumerWrite; split <;> simp

/-- What `State.acceptClassified` leaves as it was. -/
@[simp] theorem State.acceptClassified_frame (s : State) (addr : Addr) (data : Word) (lanes : Lanes) :
    (s.acceptClassified addr data lanes).pending = s.pending ∧ (s.acceptClassified addr data lanes).resetHeld = s.resetHeld ∧
    (s.acceptClassified addr data lanes).strapPage = s.strapPage ∧ (s.acceptClassified addr data lanes).links = s.links ∧
    (s.acceptClassified addr data lanes).bias = s.bias ∧ (s.acceptClassified addr data lanes).ram = s.ram := by
  unfold State.acceptClassified; (repeat' split) <;> simp

/-- What `State.accept` leaves as it was. -/
@[simp] theorem State.accept_frame (s : State) (t : BusTxn) :
   (s.accept t).pending = s.pending ∧
    (s.accept t).resetHeld = s.resetHeld ∧
    (s.accept t).strapPage = s.strapPage ∧
    (s.accept t).links = s.links ∧
    (s.accept t).bias = s.bias ∧
    (s.accept t).ram = s.ram := by
  cases t <;> simp only [State.accept] <;> (repeat' split) <;> simp

/-- What `State.acceptOffers` leaves as it was. -/
@[simp] theorem State.admit_frame (s : State) (ts : List BusTxn) :
   (s.acceptOffers ts).pending = s.pending ∧
    (s.acceptOffers ts).resetHeld = s.resetHeld ∧
    (s.acceptOffers ts).strapPage = s.strapPage ∧
    (s.acceptOffers ts).links = s.links ∧
    (s.acceptOffers ts).bias = s.bias ∧
    (s.acceptOffers ts).ram = s.ram := by
  induction ts generalizing s with
  | nil => simp [State.acceptOffers]
  | cons t ts ih => unfold State.acceptOffers; split <;> simp [ih]

/-- A property that accepting a transaction keeps, and that does not look at the offered transactions, is kept by admitting any number of
them. -/
theorem State.admit_keeps {P : State → Prop} (haccept : ∀ s t, s.cportOpen = true → P s → P (s.accept t))
    (hoffered : ∀ s o, P s → P { s with cport := { s.cport with offered := o } }) (s : State) (ts : List BusTxn) (h : P s) :
    P (s.acceptOffers ts) := by
  induction ts generalizing s with
  | nil => exact hoffered s [] h
  | cons t ts ih =>
    unfold State.acceptOffers
    split
    · exact ih _ (haccept s t ‹_› h)
    · exact hoffered s _ h

/-- What `State.admitStretched` leaves as it was. -/
@[simp] theorem State.admitStretched_frame (s : State)  :
    (s.admitStretched).pending = s.pending ∧ (s.admitStretched).resetHeld = s.resetHeld ∧
    (s.admitStretched).strapPage = s.strapPage ∧ (s.admitStretched).links = s.links ∧ (s.admitStretched).bias = s.bias ∧
    (s.admitStretched).ram = s.ram := by
  simp [State.admitStretched]

/-- What `State.offer` leaves as it was. -/
@[simp] theorem State.offer_frame (s : State) (t : BusTxn) :
    (s.offer t).pending = s.pending ∧ (s.offer t).resetHeld = s.resetHeld ∧ (s.offer t).strapPage = s.strapPage ∧
    (s.offer t).links = s.links ∧ (s.offer t).bias = s.bias ∧ (s.offer t).ram = s.ram := by
  simp [State.offer]

/-- What `State.begin` leaves as it was. -/
@[simp] theorem State.begin_frame (s : State) (t : MTxn) :
    (s.begin t).pending = s.pending ∧ (s.begin t).resetHeld = s.resetHeld ∧ (s.begin t).strapPage = s.strapPage ∧
    (s.begin t).links = s.links ∧ (s.begin t).selected = s.selected ∧ (s.begin t).bias = s.bias ∧
    (s.begin t).capture = s.capture ∧ (s.begin t).zeroResult = s.zeroResult ∧ (s.begin t).axes = s.axes ∧
    (s.begin t).cport = s.cport ∧ (s.begin t).severity = s.severity ∧ (s.begin t).burst = s.burst ∧
    (s.begin t).exciteResult = s.exciteResult ∧ (s.begin t).faults = s.faults ∧ (s.begin t).timecode = s.timecode ∧
    (s.begin t).ring = s.ring ∧ (s.begin t).profile = s.profile ∧ (s.begin t).report = s.report ∧ (s.begin t).ram = s.ram ∧
    (s.begin t).page = s.page ∧ (s.begin t).profileActive = s.profileActive := by
  simp [State.begin, State.page, State.profileActive]

/-- What `State.beginOwn` leaves as it was. -/
@[simp] theorem State.beginOwn_frame (s : State) (t : MTxn) :
    (s.beginOwn t).pending = s.pending ∧ (s.beginOwn t).resetHeld = s.resetHeld ∧ (s.beginOwn t).strapPage = s.strapPage ∧
    (s.beginOwn t).links = s.links ∧ (s.beginOwn t).selected = s.selected ∧ (s.beginOwn t).bias = s.bias ∧
    (s.beginOwn t).capture = s.capture ∧ (s.beginOwn t).zeroResult = s.zeroResult ∧ (s.beginOwn t).axes = s.axes ∧
    (s.beginOwn t).cport = s.cport ∧ (s.beginOwn t).severity = s.severity ∧ (s.beginOwn t).burst = s.burst ∧
    (s.beginOwn t).exciteResult = s.exciteResult ∧ (s.beginOwn t).faults = s.faults ∧ (s.beginOwn t).timecode = s.timecode ∧
    (s.beginOwn t).ring = s.ring ∧ (s.beginOwn t).profile = s.profile ∧ (s.beginOwn t).report = s.report ∧
    (s.beginOwn t).ram = s.ram ∧ (s.beginOwn t).page = s.page ∧ (s.beginOwn t).profileActive = s.profileActive := by
  simp [State.beginOwn, State.page, State.profileActive]

/-- What `State.grantEntry` leaves as it was. -/
@[simp] theorem State.grantEntry_frame (s : State) (e : QEntry) (rest : List QEntry) :
    (s.grantEntry e rest).pending = s.pending ∧ (s.grantEntry e rest).resetHeld = s.resetHeld ∧
    (s.grantEntry e rest).strapPage = s.strapPage ∧ (s.grantEntry e rest).links = s.links ∧
    (s.grantEntry e rest).selected = s.selected ∧ (s.grantEntry e rest).bias = s.bias ∧
    (s.grantEntry e rest).capture = s.capture ∧ (s.grantEntry e rest).zeroResult = s.zeroResult ∧
    (s.grantEntry e rest).severity = s.severity ∧ (s.grantEntry e rest).burst = s.burst ∧
    (s.grantEntry e rest).exciteResult = s.exciteResult ∧ (s.grantEntry e rest).timecode = s.timecode ∧
    (s.grantEntry e rest).ring = s.ring ∧ (s.grantEntry e rest).profile = s.profile ∧ (s.grantEntry e rest).ram = s.ram ∧
    (s.grantEntry e rest).page = s.page ∧ (s.grantEntry e rest).profileActive = s.profileActive := by
  unfold State.grantEntry; simp only []; split <;> simp [State.page, State.profileActive]

/-- What `State.grantHead` leaves as it was. -/
@[simp] theorem State.grantHead_frame (s : State)  :
    (s.grantHead).pending = s.pending ∧ (s.grantHead).resetHeld = s.resetHeld ∧ (s.grantHead).strapPage = s.strapPage ∧
    (s.grantHead).links = s.links ∧ (s.grantHead).bias = s.bias ∧ (s.grantHead).ram = s.ram := by
  unfold State.grantHead; (repeat' split) <;> simp

/-- What `State.grantRefresh` leaves as it was. -/
@[simp] theorem State.grantRefresh_frame (s : State)  :
    (s.grantRefresh).pending = s.pending ∧ (s.grantRefresh).resetHeld = s.resetHeld ∧
    (s.grantRefresh).strapPage = s.strapPage ∧ (s.grantRefresh).links = s.links ∧ (s.grantRefresh).selected = s.selected ∧
    (s.grantRefresh).bias = s.bias ∧ (s.grantRefresh).capture = s.capture ∧ (s.grantRefresh).zeroResult = s.zeroResult ∧
    (s.grantRefresh).cport = s.cport ∧ (s.grantRefresh).severity = s.severity ∧ (s.grantRefresh).burst = s.burst ∧
    (s.grantRefresh).exciteResult = s.exciteResult ∧ (s.grantRefresh).timecode = s.timecode ∧
    (s.grantRefresh).ring = s.ring ∧ (s.grantRefresh).profile = s.profile ∧ (s.grantRefresh).ram = s.ram ∧
    (s.grantRefresh).page = s.page ∧ (s.grantRefresh).profileActive = s.profileActive := by
  unfold State.grantRefresh; (repeat' split) <;> simp

/-- What `State.grantBoost` leaves as it was. -/
@[simp] theorem State.grantBoost_frame (s : State)  :
    (s.grantBoost).pending = s.pending ∧ (s.grantBoost).resetHeld = s.resetHeld ∧ (s.grantBoost).strapPage = s.strapPage ∧
    (s.grantBoost).links = s.links ∧ (s.grantBoost).selected = s.selected ∧ (s.grantBoost).bias = s.bias ∧
    (s.grantBoost).capture = s.capture ∧ (s.grantBoost).zeroResult = s.zeroResult ∧ (s.grantBoost).axes = s.axes ∧
    (s.grantBoost).cport = s.cport ∧ (s.grantBoost).burst = s.burst ∧ (s.grantBoost).exciteResult = s.exciteResult ∧
    (s.grantBoost).faults = s.faults ∧ (s.grantBoost).timecode = s.timecode ∧ (s.grantBoost).ring = s.ring ∧
    (s.grantBoost).profile = s.profile ∧ (s.grantBoost).report = s.report ∧ (s.grantBoost).ram = s.ram ∧
    (s.grantBoost).page = s.page ∧ (s.grantBoost).profileActive = s.profileActive := by
  unfold State.grantBoost; (repeat' split) <;> simp [State.page, State.profileActive]

/-- What `State.grantReport` leaves as it was. -/
@[simp] theorem State.grantReport_frame (s : State)  :
    (s.grantReport).pending = s.pending ∧ (s.grantReport).resetHeld = s.resetHeld ∧ (s.grantReport).strapPage = s.strapPage ∧
    (s.grantReport).links = s.links ∧ (s.grantReport).selected = s.selected ∧ (s.grantReport).bias = s.bias ∧
    (s.grantReport).capture = s.capture ∧ (s.grantReport).zeroResult = s.zeroResult ∧ (s.grantReport).axes = s.axes ∧
    (s.grantReport).cport = s.cport ∧ (s.grantReport).severity = s.severity ∧ (s.grantReport).burst = s.burst ∧
    (s.grantReport).exciteResult = s.exciteResult ∧ (s.grantReport).faults = s.faults ∧
    (s.grantReport).timecode = s.timecode ∧ (s.grantReport).ring = s.ring ∧ (s.grantReport).profile = s.profile ∧
    (s.grantReport).ram = s.ram ∧ (s.grantReport).page = s.page ∧ (s.grantReport).profileActive = s.profileActive := by
  unfold State.grantReport; (repeat' split) <;> simp

/-- What `State.grantRing` leaves as it was. -/
@[simp] theorem State.grantRing_frame (s : State)  :
    (s.grantRing).pending = s.pending ∧ (s.grantRing).resetHeld = s.resetHeld ∧ (s.grantRing).strapPage = s.strapPage ∧
    (s.grantRing).links = s.links ∧ (s.grantRing).selected = s.selected ∧ (s.grantRing).bias = s.bias ∧
    (s.grantRing).capture = s.capture ∧ (s.grantRing).zeroResult = s.zeroResult ∧ (s.grantRing).axes = s.axes ∧
    (s.grantRing).cport = s.cport ∧ (s.grantRing).severity = s.severity ∧ (s.grantRing).burst = s.burst ∧
    (s.grantRing).exciteResult = s.exciteResult ∧ (s.grantRing).faults = s.faults ∧ (s.grantRing).timecode = s.timecode ∧
    (s.grantRing).profile = s.profile ∧ (s.grantRing).report = s.report ∧
    (s.grantRing).ram = s.ram ∧ (s.grantRing).page = s.page ∧ (s.grantRing).profileActive = s.profileActive := by
  unfold State.grantRing; (repeat' split) <;> simp [State.page, State.profileActive]

/-- What `State.grantSweep` leaves as it was. -/
@[simp] theorem State.grantSweep_frame (s : State)  :
    (s.grantSweep).pending = s.pending ∧ (s.grantSweep).resetHeld = s.resetHeld ∧ (s.grantSweep).strapPage = s.strapPage ∧
    (s.grantSweep).links = s.links ∧ (s.grantSweep).selected = s.selected ∧ (s.grantSweep).bias = s.bias ∧
    (s.grantSweep).capture = s.capture ∧ (s.grantSweep).zeroResult = s.zeroResult ∧ (s.grantSweep).axes = s.axes ∧
    (s.grantSweep).cport = s.cport ∧ (s.grantSweep).severity = s.severity ∧ (s.grantSweep).burst = s.burst ∧
    (s.grantSweep).exciteResult = s.exciteResult ∧ (s.grantSweep).faults = s.faults ∧ (s.grantSweep).timecode = s.timecode ∧
    (s.grantSweep).ring = s.ring ∧ (s.grantSweep).profile = s.profile ∧ (s.grantSweep).report = s.report ∧
    (s.grantSweep).ram = s.ram ∧ (s.grantSweep).page = s.page ∧ (s.grantSweep).profileActive = s.profileActive := by
  unfold State.grantSweep; (repeat' split) <;> simp

/-- What `State.store` leaves as it was. -/
@[simp] theorem State.store_frame (s : State) (t : MTxn) :
    (s.store t).pending = s.pending ∧ (s.store t).resetHeld = s.resetHeld ∧ (s.store t).strapPage = s.strapPage ∧
    (s.store t).links = s.links ∧ (s.store t).selected = s.selected ∧ (s.store t).bias = s.bias ∧
    (s.store t).capture = s.capture ∧ (s.store t).zeroResult = s.zeroResult ∧ (s.store t).axes = s.axes ∧
    (s.store t).cport = s.cport ∧ (s.store t).mport = s.mport ∧ (s.store t).severity = s.severity ∧
    (s.store t).burst = s.burst ∧ (s.store t).exciteResult = s.exciteResult ∧ (s.store t).faults = s.faults ∧
    (s.store t).timecode = s.timecode ∧ (s.store t).ring = s.ring ∧ (s.store t).profile = s.profile ∧
    (s.store t).report = s.report ∧ (s.store t).page = s.page ∧ (s.store t).profileActive = s.profileActive := by
  simp [State.store, State.page, State.profileActive]

/-- What `State.freePort` leaves as it was. -/
@[simp] theorem State.freePort_frame (s : State)  :
    (s.freePort).pending = s.pending ∧ (s.freePort).resetHeld = s.resetHeld ∧ (s.freePort).strapPage = s.strapPage ∧
    (s.freePort).links = s.links ∧ (s.freePort).selected = s.selected ∧ (s.freePort).bias = s.bias ∧
    (s.freePort).capture = s.capture ∧ (s.freePort).zeroResult = s.zeroResult ∧ (s.freePort).axes = s.axes ∧
    (s.freePort).cport = s.cport ∧ (s.freePort).severity = s.severity ∧ (s.freePort).burst = s.burst ∧
    (s.freePort).exciteResult = s.exciteResult ∧ (s.freePort).faults = s.faults ∧ (s.freePort).timecode = s.timecode ∧
    (s.freePort).ring = s.ring ∧ (s.freePort).profile = s.profile ∧ (s.freePort).report = s.report ∧
    (s.freePort).ram = s.ram ∧ (s.freePort).page = s.page ∧ (s.freePort).profileActive = s.profileActive := by
  simp [State.freePort, State.page, State.profileActive]

/-- What `State.completeWrite` leaves as it was. -/
@[simp] theorem State.completeWrite_frame (s : State)  :
    (s.completeWrite).pending = s.pending ∧ (s.completeWrite).resetHeld = s.resetHeld ∧
    (s.completeWrite).strapPage = s.strapPage ∧ (s.completeWrite).links = s.links ∧ (s.completeWrite).selected = s.selected ∧
    (s.completeWrite).bias = s.bias ∧ (s.completeWrite).capture = s.capture ∧ (s.completeWrite).zeroResult = s.zeroResult ∧
    (s.completeWrite).axes = s.axes ∧ (s.completeWrite).cport = s.cport ∧ (s.completeWrite).severity = s.severity ∧
    (s.completeWrite).burst = s.burst ∧ (s.completeWrite).exciteResult = s.exciteResult ∧
    (s.completeWrite).faults = s.faults ∧ (s.completeWrite).timecode = s.timecode ∧ (s.completeWrite).ring = s.ring ∧
    (s.completeWrite).profile = s.profile ∧ (s.completeWrite).report = s.report ∧ (s.completeWrite).page = s.page ∧
    (s.completeWrite).profileActive = s.profileActive := by
  unfold State.completeWrite; (repeat' split) <;> simp

/-- What `State.completeRingWord` leaves as it was. -/
@[simp] theorem State.completeRingWord_frame (s : State)  :
    (s.completeRingWord).pending = s.pending ∧ (s.completeRingWord).resetHeld = s.resetHeld ∧
    (s.completeRingWord).strapPage = s.strapPage ∧ (s.completeRingWord).links = s.links ∧
    (s.completeRingWord).selected = s.selected ∧ (s.completeRingWord).bias = s.bias ∧
    (s.completeRingWord).capture = s.capture ∧ (s.completeRingWord).zeroResult = s.zeroResult ∧
    (s.completeRingWord).axes = s.axes ∧ (s.completeRingWord).cport = s.cport ∧ (s.completeRingWord).severity = s.severity ∧
    (s.completeRingWord).burst = s.burst ∧ (s.completeRingWord).exciteResult = s.exciteResult ∧
    (s.completeRingWord).faults = s.faults ∧ (s.completeRingWord).timecode = s.timecode ∧
    (s.completeRingWord).profile = s.profile ∧ (s.completeRingWord).page = s.page ∧
    (s.completeRingWord).profileActive = s.profileActive := by
  unfold State.completeRingWord; (repeat' split) <;> simp

/-- What `State.placeSwept` leaves as it was. -/
@[simp] theorem State.placeSwept_frame (s : State) (pos : Offset) (w : Word) :
    (s.placeSwept pos w).pending = s.pending ∧ (s.placeSwept pos w).resetHeld = s.resetHeld ∧
    (s.placeSwept pos w).strapPage = s.strapPage ∧ (s.placeSwept pos w).links = s.links ∧
    (s.placeSwept pos w).selected = s.selected ∧ (s.placeSwept pos w).bias = s.bias ∧
    (s.placeSwept pos w).capture = s.capture ∧ (s.placeSwept pos w).zeroResult = s.zeroResult ∧
    (s.placeSwept pos w).axes = s.axes ∧ (s.placeSwept pos w).cport = s.cport ∧ (s.placeSwept pos w).mport = s.mport ∧
    (s.placeSwept pos w).severity = s.severity ∧ (s.placeSwept pos w).burst = s.burst ∧
    (s.placeSwept pos w).exciteResult = s.exciteResult ∧ (s.placeSwept pos w).faults = s.faults ∧
    (s.placeSwept pos w).timecode = s.timecode ∧ (s.placeSwept pos w).ring = s.ring ∧
    (s.placeSwept pos w).report = s.report ∧ (s.placeSwept pos w).ram = s.ram := by
  unfold State.placeSwept; split <;> simp

/-- What `State.endSweep` leaves as it was. -/
@[simp] theorem State.endSweep_frame (s : State)  :
    (s.endSweep).pending = s.pending ∧ (s.endSweep).resetHeld = s.resetHeld ∧ (s.endSweep).strapPage = s.strapPage ∧
    (s.endSweep).links = s.links ∧ (s.endSweep).bias = s.bias ∧ (s.endSweep).ram = s.ram := by
  unfold State.endSweep; simp only []; split <;> simp

/-- What `State.completeSweepRead` leaves as it was. -/
@[simp] theorem State.completeSweepRead_frame (s : State)  :
    (s.completeSweepRead).pending = s.pending ∧ (s.completeSweepRead).resetHeld = s.resetHeld ∧
    (s.completeSweepRead).strapPage = s.strapPage ∧ (s.completeSweepRead).links = s.links ∧
    (s.completeSweepRead).bias = s.bias ∧ (s.completeSweepRead).ram = s.ram := by
  unfold State.completeSweepRead; simp only []; (repeat' split) <;> simp

/-- What `State.returnRead` leaves as it was. -/
@[simp] theorem State.returnRead_frame (s : State) (bind : Option AxisId) (addr : Addr) :
    (s.returnRead bind addr).pending = s.pending ∧ (s.returnRead bind addr).resetHeld = s.resetHeld ∧
    (s.returnRead bind addr).strapPage = s.strapPage ∧ (s.returnRead bind addr).links = s.links ∧
    (s.returnRead bind addr).bias = s.bias ∧ (s.returnRead bind addr).ram = s.ram := by
  unfold State.returnRead; simp only []; split <;> simp

/-- What `State.completeRead` leaves as it was. -/
@[simp] theorem State.completeRead_frame (s : State)  :
    (s.completeRead).pending = s.pending ∧ (s.completeRead).resetHeld = s.resetHeld ∧
    (s.completeRead).strapPage = s.strapPage ∧ (s.completeRead).links = s.links ∧ (s.completeRead).bias = s.bias ∧
    (s.completeRead).ram = s.ram := by
  unfold State.completeRead; (repeat' split) <;> simp

/-- What `State.completeEventRead` leaves as it was. -/
@[simp] theorem State.completeEventRead_frame (s : State)  :
    (s.completeEventRead).pending = s.pending ∧ (s.completeEventRead).resetHeld = s.resetHeld ∧
    (s.completeEventRead).strapPage = s.strapPage ∧ (s.completeEventRead).links = s.links ∧
    (s.completeEventRead).bias = s.bias ∧ (s.completeEventRead).ram = s.ram := by
  unfold State.completeEventRead; (repeat' split) <;> simp

end Sys2Proof.Machine
end

