-- ==== Sys2Proof/Laws/Words.lean ====
section
/-! SUPPORT. Words and their bytes, the words of a page, and addresses and their pages. -/

namespace Sys2Proof.Machine

theorem ofBytes_toNat (x y : Byte) : (ofBytes x y).toNat = x.toNat * 256 + y.toNat := by
  have h : (ofBytes x y).toNat = (x.toNat <<< 8) ||| y.toNat := BitVec.toNat_append x y
  rw [h, ← Nat.shiftLeft_add_eq_or_of_lt y.isLt, Nat.shiftLeft_eq]

theorem highByte_toNat (w : Word) : (highByte w).toNat = w.toNat / 256 := by
  simp [highByte, Nat.shiftRight_eq_div_pow]; omega

theorem lowByte_toNat (w : Word) : (lowByte w).toNat = w.toNat % 256 := by simp [lowByte]

@[simp] theorem highByte_ofBytes (x y : Byte) : highByte (ofBytes x y) = x := by
  apply BitVec.eq_of_toNat_eq; rw [highByte_toNat, ofBytes_toNat]; omega

@[simp] theorem lowByte_ofBytes (x y : Byte) : lowByte (ofBytes x y) = y := by
  apply BitVec.eq_of_toNat_eq; rw [lowByte_toNat, ofBytes_toNat]; omega

@[simp] theorem ofBytes_high_low (w : Word) : ofBytes (highByte w) (lowByte w) = w := by
  apply BitVec.eq_of_toNat_eq; rw [ofBytes_toNat, highByte_toNat, lowByte_toNat]; omega

/-- With both lanes enabled the whole word is taken. -/
@[simp] theorem mergeLanes_both (data old : Word) : mergeLanes .both data old = data := by simp [mergeLanes]

@[simp] theorem Page.word_setWord_same (p : Page) (w : Offset) (v : Word) : (p.setWord w v).word w = v := by
  simp [Page.word, Page.setWord]

theorem Page.word_setWord_ne (p : Page) {w u : Offset} (v : Word) (h : u ≠ w) : (p.setWord w v).word u = p.word u := by
  have h' : w.toNat ≠ u.toNat := fun e => h (BitVec.eq_of_toNat_eq e.symm)
  simp [Page.word, Page.setWord, Vector.getElem_set_ne _ _ h']

theorem addrAt_toNat (page : PageNo) (w : Offset) : (addrAt page w).toNat = page.toNat * 256 + w.toNat := by
  have h : (addrAt page w).toNat = (page.toNat <<< 8) ||| w.toNat := BitVec.toNat_append page w
  rw [h, ← Nat.shiftLeft_add_eq_or_of_lt w.isLt, Nat.shiftLeft_eq]

theorem pageOf_toNat (a : Addr) : (pageOf a).toNat = a.toNat / 256 := by
  simp [pageOf, Nat.shiftRight_eq_div_pow]; omega

theorem offsetOf_toNat (a : Addr) : (offsetOf a).toNat = a.toNat % 256 := by simp [offsetOf]

@[simp] theorem pageOf_addrAt (page : PageNo) (w : Offset) : pageOf (addrAt page w) = page := by
  apply BitVec.eq_of_toNat_eq; rw [pageOf_toNat, addrAt_toNat]; omega

@[simp] theorem offsetOf_addrAt (page : PageNo) (w : Offset) : offsetOf (addrAt page w) = w := by
  apply BitVec.eq_of_toNat_eq; rw [offsetOf_toNat, addrAt_toNat]; omega

/-- An address is the address at its offset of its page. -/
@[simp] theorem addrAt_page_offset (addr : Addr) : addrAt (pageOf addr) (offsetOf addr) = addr := by
  apply BitVec.eq_of_toNat_eq; rw [addrAt_toNat, pageOf_toNat, offsetOf_toNat]; omega

/-- The report page is never the profile page. -/
@[simp] theorem reportPageOf_ne (p : PageNo) : reportPageOf p ≠ p := by
  unfold reportPageOf; intro h; have := congrArg BitVec.toNat h; simp [BitVec.toNat_add] at this; omega

/-- A word of the profile page is classified as that word. -/
@[simp] theorem State.classify_profile (s : State) (w : Offset) : s.classify (addrAt s.strapPage w) = .profileWord w := by
  simp [State.classify]

/-- A word of the report page is classified as that word. -/
@[simp] theorem State.classify_report (s : State) (w : Offset) : s.classify (addrAt s.reportPage w) = .reportWord w := by
  simp [State.classify, State.reportPage]

end Sys2Proof.Machine
end

