-- ==== Sys2Proof/Laws/Accept.lean ====
section
/-! SUPPORT. What the acceptance of a transaction comes to when the C-port takes it at once, and how a command runs from there. -/

namespace Sys2Proof.Machine

/-! ### Nothing that a block does at an acceptance touches what is stretched -/

@[simp] theorem State.takeUpTable_offered (s : State) (old : Option Page) :
    (s.takeUpTable old).cport.offered = s.cport.offered := by
  unfold State.takeUpTable; split <;> simp [State.rebindQueue]

@[simp] theorem State.takeUpProfile_offered (s : State) : s.takeUpProfile.cport.offered = s.cport.offered := by
  simp [State.takeUpProfile]

@[simp] theorem State.applyRequest_offered (s : State) : s.applyRequest.cport.offered = s.cport.offered := by
  unfold State.applyRequest; simp only []; split <;> simp

@[simp] theorem State.enqueue_offered (s : State) (t : BusTxn) (bind : Option AxisId) :
    (s.enqueue t bind).cport.offered = s.cport.offered := rfl

@[simp] theorem State.handOn_offered (s : State) (w : Offset) : (s.handOn w).cport.offered = s.cport.offered := by
  unfold State.handOn; (repeat' split) <;> simp

@[simp] theorem State.accept_offered (s : State) (t : BusTxn) : (s.accept t).cport.offered = s.cport.offered := by
  cases t with
  | read addr lanes => rfl
  | write addr data lanes =>
    simp only [State.accept]
    split
    · rfl
    · unfold State.acceptClassified
      (repeat' split) <;> simp [State.consumerWrite]
      split <;> simp

/-- A state with nothing stretched is the state it is. -/
theorem State.offered_nil {s : State} (h : s.cport.offered = []) : { s with cport := { s.cport with offered := [] } } = s := by
  rw [← h]

/-- What the C-port takes at once is accepted, and nothing more. -/
theorem State.offer_of_takes {s : State} (h : CportTakes s) (t : BusTxn) : s.offer t = s.accept t := by
  obtain ⟨ho, hs⟩ := h
  simp only [State.offer, hs, List.nil_append, State.acceptOffers, ho, if_true]
  exact State.offered_nil (by simp [hs])

/-- What a closed C-port is offered is stretched behind what is stretched already. -/
theorem State.offer_of_closed {s : State} (h : s.cportOpen = false) (t : BusTxn) :
    s.offer t = { s with cport := { s.cport with offered := s.cport.offered ++ [t] } } := by
  cases ho : s.cport.offered <;> simp [State.offer, State.acceptOffers, h, ho]

/-- With nothing stretched there is nothing to acceptOffers. -/
theorem State.admitStretched_nil {s : State} (h : s.cport.offered = []) : s.admitStretched = s := by
  simp only [State.admitStretched, h, State.acceptOffers]; exact State.offered_nil h

/-! ### The path of a command -/

/-- The state that a command's tests see: its word merged into the shadow, its write queued. -/
def commandSeen (s : State) (code operand : Byte) : State :=
  { s with cport := commandQueued s code operand,
           profile := { s.profile with shadow := s.profile.shadow.setWord 0 (ofBytes code operand),
                                       touched := s.profile.touched.set 0 true } }

/-- A command that the C-port takes at once runs on the state its tests see, and its result is reported. -/
theorem State.offerCommand_of_takes {s : State} (h : CportTakes s) {code : Byte} (operand : Byte) (hc : code ≠ 0) :
    s.offerCommand code operand =
      (runCommand code operand (commandSeen s code operand)).2.reportCommand code
        (runCommand code operand (commandSeen s code operand)).1 := by
  simp only [State.offerCommand, State.offerProfileWrite, State.offer_of_takes h, State.accept, State.acceptClassified,
    State.classify_profile]
  have hn : (Lanes.both = Lanes.neither) = False := by simp
  simp only [hn, if_false, State.handOn, if_true, mergeLanes_both, State.mergeShadow, State.enqueue]
  simp only [State.command, Page.word_setWord_same, highByte_ofBytes, lowByte_ofBytes, hc, if_false]
  rfl

/-- A command that meets none of the common refusals is handed to its owner. -/
theorem runCommand_of_ready {s : State} (h : CommandReady s) {code operand : Byte}
    (ha : takesAxis code.toNat = true → operand.toNat ≤ 3) :
    runCommand code operand (commandSeen s code operand) =
      ownerCommand code.toNat (axisOperand operand) (commandSeen s code operand) := by
  obtain ⟨_, hs, hp⟩ := h
  have hp' : (commandSeen s code operand).profileActive = true := hp
  have hs' : (commandSeen s code operand).profile.sweep = .done := hs
  unfold runCommand
  simp only [hp', hs', Sweep.isDone, Bool.not_true, Bool.false_and, if_false, Bool.false_eq_true]
  split
  · rename_i hx; simp only [Bool.and_eq_true, decide_eq_true_eq] at hx; have := ha hx.1; omega
  · rfl

@[simp] theorem axisOperand_axisByte (a : AxisId) : axisOperand (axisByte a) = a := by revert a; decide

@[simp] theorem axisByte_toNat (a : AxisId) : (axisByte a).toNat = a.val := by revert a; decide

/-! ### Reports -/

@[simp] theorem Event.mask_bit (e d : Event) : e.mask.getLsbD d.bit = decide (d = e) := by cases e <;> cases d <;> rfl

@[simp] theorem State.isPending_raise (s : State) (e d : Event) : (s.raise e).isPending d = (s.isPending d || decide (d = e)) := by
  simp [State.isPending, State.raise_events]

@[simp] theorem State.isPending_mark (s : State) (w : ReportWord) (d : Event) : (s.mark w).isPending d = s.isPending d := rfl

/-- The pending set reads the same in two states with the same report. -/
theorem State.isPending_congr {s t : State} (h : t.report = s.report) (e : Event) : t.isPending e = s.isPending e := by
  simp [State.isPending, h]

/-- The dirty marks read the same in two states with the same report. -/
theorem State.isDirty_congr {s t : State} (h : t.report = s.report) (w : ReportWord) : t.isDirty w = s.isDirty w := by
  simp [State.isDirty, h]

end Sys2Proof.Machine
end

