-- ==== Sys2Proof/Laws/Axes.lean ====
section
/-! SUPPORT. What each operation on axes makes of the axes' records, once for each operation: the record of every axis after it. -/

namespace Sys2Proof.Machine

/-- Two states that agree in every field are one. -/
theorem State.eq_of_fields {s t : State} (h1 : t.pending = s.pending) (h2 : t.resetHeld = s.resetHeld) (h3 : t.strapPage = s.strapPage)
    (h4 : t.links = s.links) (h5 : t.selected = s.selected) (h6 : t.bias = s.bias) (h7 : t.capture = s.capture)
    (h8 : t.zeroResult = s.zeroResult) (h9 : t.axes = s.axes) (h10 : t.cport = s.cport) (h11 : t.mport = s.mport)
    (h12 : t.severity = s.severity) (h13 : t.burst = s.burst) (h14 : t.exciteResult = s.exciteResult) (h15 : t.faults = s.faults)
    (h16 : t.timecode = s.timecode) (h17 : t.ring = s.ring) (h18 : t.profile = s.profile) (h19 : t.report = s.report)
    (h20 : t.ram = s.ram) : t = s := by
  cases s; cases t; simp_all

/-- The axes are those of a state with one record replaced, where every record says so. -/
theorem State.axes_eq_withAxis {s t : State} {a : AxisId} {ax : Axis} (h : ∀ b, t.axis b = if b = a then ax else s.axis b) :
    t.axes = withAxis s a ax := by
  apply Vector.ext
  intro i hi
  have hb := h ⟨i, hi⟩
  simp only [State.axis, Vector.get_eq_getElem] at hb
  rw [hb, withAxis]
  by_cases hia : i = a.val
  · have : (⟨i, hi⟩ : AxisId) = a := Fin.ext hia
    subst hia; simp
  · have : (⟨i, hi⟩ : AxisId) ≠ a := fun e => hia (congrArg Fin.val e)
    rw [if_neg this, Vector.getElem_set_ne _ _ (Ne.symm hia)]

/-- The axes are the same where every record is. -/
theorem State.axes_eq {s t : State} (h : ∀ b, t.axis b = s.axis b) : t.axes = s.axes := by
  apply Vector.ext
  intro i hi
  have hb := h ⟨i, hi⟩
  simpa [State.axis, Vector.get_eq_getElem] using hb

/-! ### One record read -/

theorem State.axis_withAxes (s : State) (v : Vector Axis 4) (b : AxisId) : ({ s with axes := v } : State).axis b = v.get b := rfl

/-- An axis class's flag written where it holds the value already. -/
theorem Axis.withClass_same (ax : Axis) (c : AxisClass) {on : Bool} (h : ax.classActive c = on) : ax.withClass c on = ax := by
  cases c <;> simp only [Axis.classActive] at h <;> subst h <;> rfl

/-- Setting or clearing a flag while the profile is ACTIVE. -/
theorem State.axis_setAxisFlag {s : State} (h : s.profileActive = true) (c : AxisClass) (a : AxisId) (on : Bool) (b : AxisId) :
    (s.setAxisFlag c a on).axis b = if b = a then (s.axis a).withClass c on else s.axis b := by
  unfold State.setAxisFlag
  split
  · rename_i hx
    simp only [h, Bool.not_true, Bool.false_or, beq_iff_eq] at hx
    by_cases hb : b = a
    · subst hb; simp [Axis.withClass_same _ _ hx]
    · simp [hb]
  · have e : ∀ t : State, ∀ x : Bool, ((t.markIf x .activeFaults).judgeHeadline).axis b = t.axis b := by
      intro t x; exact State.axis_congr (by simp) b
    simp only []
    rw [e]; simp [State.axis_setAxis]

/-- A state change. -/
theorem State.axis_setAxisState (s : State) (a : AxisId) (st : AxisState) (b : AxisId) :
    (s.setAxisState a st).axis b = if b = a then { s.axis a with state := st } else s.axis b := by
  unfold State.setAxisState
  split
  · rename_i h; by_cases hb : b = a
    · subst hb; subst h; simp
    · simp [hb]
  · rw [State.axis_congr (by simp : _ = (((s.setAxis a { s.axis a with state := st }).raise .axisState).mark (.axisStatus a)).axes)]
    simp [State.axis_setAxis]

/-- A cause added. -/
theorem State.axis_addCause (s : State) (a : AxisId) (c : Cause) (b : AxisId) :
    (s.addCause a c).axis b = if b = a then { s.axis a with causes := (s.axis a).causes.add c } else s.axis b := by
  simp [State.addCause, State.axis_setAxis]

/-- A refresh marked. -/
theorem State.axis_markRefresh (s : State) (a b : AxisId) :
    (s.markRefresh a).axis b = if b = a then refreshMarked (s.axis a) else s.axis b := by
  unfold State.markRefresh refreshMarked
  split
  · by_cases hb : b = a
    · subst hb; simp
    · simp [hb]
  · simp [State.axis_setAxis]

/-- A refresh granted, satisfied or cancelled while the profile is ACTIVE. -/
theorem State.axis_clearRefresh {s : State} (h : s.profileActive = true) (a b : AxisId) :
    (s.clearRefresh a).axis b = if b = a then refreshCleared (s.axis a) else s.axis b := by
  unfold State.clearRefresh
  rw [State.axis_setAxisFlag (by simpa using h)]
  by_cases hb : b = a
  · simp [hb, Axis.withClass, refreshCleared]
  · simp [hb, State.axis_setAxis]

/-- The entry to HELD while the profile is ACTIVE. -/
theorem State.axis_enterHeld {s : State} (h : s.profileActive = true) (a : AxisId) (c : Cause) (b : AxisId) :
    (s.enterHeld a c).axis b = if b = a then
      { s.axis a with state := .held, causes := (s.axis a).causes.add c, refreshPending := false, deadlineTimer := none,
                      silenceTimer := none, dwellTimer := none, limitDwellActive := false, lateActive := false }
      else s.axis b := by
  unfold State.enterHeld
  simp only []
  rw [State.axis_setAxisState, State.axis_setAxisFlag (by simpa using h), State.axis_setAxisFlag (by simpa using h)]
  by_cases hb : b = a
  · subst hb
    simp only [if_true, State.axis_setAxis_same]
    rw [State.axis_clearRefresh (by simpa using h)]
    simp [State.axis_addCause, refreshCleared, Axis.withClass]
  · simp only [hb, if_false]
    rw [State.axis_setAxis_ne _ _ hb, State.axis_clearRefresh (by simpa using h)]
    simp [State.axis_addCause, hb]

/-- A hold while the profile is ACTIVE. -/
theorem State.axis_hold {s : State} (h : s.profileActive = true) (a : AxisId) (c : Cause) (b : AxisId) :
    (s.hold a c).axis b = if b = a then heldBy c (s.axis a) else s.axis b := by
  unfold State.hold heldBy
  cases hs : (s.axis a).state <;> simp only []
  · by_cases hb : b = a
    · subst hb; simp
    · simp [hb]
  · rw [State.axis_enterHeld h]
  · rw [State.axis_enterHeld h]
  · rw [State.axis_addCause]; simp only [hs]

/-- Something done to each axis in turn that leaves the others gives each axis's record what it gives one. -/
theorem State.axis_forAxes {f : AxisId → State → State} {g : AxisId → Axis → Axis} {P : State → Prop} (hP : ∀ a s, P s → P (f a s))
    (hf : ∀ a s b, P s → (f a s).axis b = if b = a then g a (s.axis a) else s.axis b) {s : State} (h : P s) (b : AxisId) :
    (forAxes f s).axis b = g b (s.axis b) := by
  have h0 := hP 0 s h
  have h1 := hP 1 _ h0
  have h2 := hP 2 _ h1
  unfold forAxes
  rw [hf 3 _ b h2, hf 2 _ _ h1, hf 1 _ _ h0, hf 0 _ _ h, hf 2 _ _ h1, hf 1 _ _ h0, hf 0 _ _ h]
  fin_cases b <;> simp [hf 1 _ _ h0, hf 0 _ _ h]

/-- Hold requests to all axes while the profile is ACTIVE. -/
theorem State.axis_holdAll {s : State} (h : s.profileActive = true) {fc : FaultClass} {c : Cause} (hc : fc.cause = some c) (b : AxisId) :
    (s.holdAll fc).axis b = heldBy c (s.axis b) := by
  unfold State.holdAll
  refine State.axis_forAxes (P := fun t => t.profileActive = true) (g := fun _ ax => heldBy c ax) ?_ ?_ h b
  · intro a t ht; simpa using ht
  · intro a t b ht
    simp only [State.holdRequest, hc]
    exact State.axis_hold ht a c b

/-! ### Composition -/

/-- The dwell measure while the profile is ACTIVE. -/
theorem State.axis_measureDwell {s : State} (h : s.profileActive = true) (a b : AxisId) :
    (s.measureDwell a).axis b = if b = a then
      { s.axis a with dwellTimer := (dwellAfter (s.axis a).limit (s.page.dwellMs a) (s.axis a)).1
                      limitDwellActive := (dwellAfter (s.axis a).limit (s.page.dwellMs a) (s.axis a)).2 }
      else s.axis b := by
  unfold State.measureDwell dwellAfter
  cases hl : (s.axis a).limit
  · simp only [Bool.false_eq_true, if_false]
    rw [State.axis_setAxisFlag (by simpa using h)]
    by_cases hb : b = a
    · simp [hb, Axis.withClass]
    · simp [hb, State.axis_setAxis]
  · simp only [if_true]
    by_cases hd : (s.axis a).dwellTimer = none ∧ (s.axis a).limitDwellActive = false
    · simp only [hd, and_self, if_true]
      simp [State.axis_setAxis]
    · simp only [hd, if_false]
      by_cases hb : b = a
      · subst hb; simp
      · simp [hb]

/-- An axis's record after a composition, by what the composition gives. -/
theorem composedAxis_eq (p : Page) (a : AxisId) (sev : SeverityState) (x : Int) (ax : Axis) :
    composedAxis p a sev x ax =
      { ax with correction := (composed p a sev x ax).correction, output := (composed p a sev x ax).output,
                rate := (composed p a sev x ax).rate, limit := (composed p a sev x ax).limit,
                dwellTimer := (dwellAfter (composed p a sev x ax).limit (p.dwellMs a) ax).1,
                limitDwellActive := (dwellAfter (composed p a sev x ax).limit (p.dwellMs a) ax).2 } := rfl

/-- One composition while the profile is ACTIVE. -/
theorem State.axis_compose {s : State} (h : s.profileActive = true) (a b : AxisId) :
    (s.compose a).axis b = if b = a then composedAxis s.page a s.severity.state (s.excitation a) (s.axis a) else s.axis b := by
  unfold State.compose
  simp only []
  rw [State.axis_measureDwell (by simpa using h)]
  by_cases hb : b = a
  · subst hb
    simp only [if_true]
    have he : ∀ (t : State) (x : Bool) (v u w : ReportWord), (((t.mark v).mark u).markIf x w).axis b = t.axis b := by
      intro t x v u w; simp
    rw [composedAxis_eq, he, State.axis_setAxis_same]
    simp [dwellAfter]
  · simp [hb, State.axis_setAxis]

/-- An arrival counted toward the next refresh. -/
theorem State.axis_countArrival (s : State) (a b : AxisId) :
    (s.countArrival a).axis b = if b = a then arrivalCounted (s.page.divider a) (s.axis a) else s.axis b := by
  unfold State.countArrival arrivalCounted
  split
  · rw [State.axis_markRefresh]; by_cases hb : b = a <;> simp [hb, State.axis_setAxis]
  · simp [State.axis_setAxis]

end Sys2Proof.Machine
end

