-- ==== Sys2Proof/Laws/Ram.lean ====
section
/-! SUPPORT. The setpoint RAM: a write is read back at its own cell and leaves every other, and keeps the canonical form. -/

namespace Sys2Proof.Machine

/-- A canonical listing that starts later is canonical from any earlier cell. -/
theorem cellsFrom_mono {m : Memory} {i j : Nat} (hij : i ≤ j) (h : cellsFrom j m = true) : cellsFrom i m = true := by
  cases m with
  | nil => rfl
  | cons c rest =>
    simp only [cellsFrom, Bool.and_eq_true, decide_eq_true_eq] at h ⊢
    exact ⟨⟨by omega, h.1.2⟩, h.2⟩

/-- A cell below the start of a listing is not listed. -/
theorem readByte_below {m : Memory} {i k : Nat} (h : cellsFrom i m = true) (hk : k < i) : m.readByte k = unlistedByte := by
  induction m generalizing i with
  | nil => rfl
  | cons c rest ih =>
    simp only [cellsFrom, Bool.and_eq_true, decide_eq_true_eq] at h
    have hne : c.1 ≠ k := by omega
    simp only [Memory.readByte, hne, if_false]
    exact ih h.2 (by omega)

theorem cellsFrom_writeByte {m : Memory} {i k : Nat} (b : Byte) (h : cellsFrom i m = true) (hk : i ≤ k) :
    cellsFrom i (m.writeByte k b) = true := by
  induction m generalizing i with
  | nil => by_cases hb : b = unlistedByte <;> simp [Memory.writeByte, cellsFrom, hb, hk]
  | cons c rest ih =>
    obtain ⟨j, c⟩ := c
    simp only [cellsFrom, Bool.and_eq_true, decide_eq_true_eq] at h
    obtain ⟨⟨hij, hc⟩, hr⟩ := h
    simp only [Memory.writeByte]
    split
    · by_cases hb : b = unlistedByte
      · simp [hb, cellsFrom, hij, hc, hr]
      · have : k + 1 ≤ j := by omega
        simp [hb, cellsFrom, hk, hc, hr, this]
    · split
      · by_cases hb : b = unlistedByte
        · simp only [hb, if_true]; exact cellsFrom_mono (by omega) hr
        · subst j; simp [hb, cellsFrom, hk, hr]
      · simp only [cellsFrom, Bool.and_eq_true, decide_eq_true_eq]
        exact ⟨⟨hij, hc⟩, ih hr (by omega)⟩

/-- A write of a byte keeps the canonical form. -/
theorem Memory.writeByte_wf {m : Memory} (k : Nat) (b : Byte) (h : m.wf = true) : (m.writeByte k b).wf = true :=
  cellsFrom_writeByte b h (Nat.zero_le k)

/-- A byte written is the byte read. -/
theorem Memory.readByte_writeByte_same {m : Memory} (k : Nat) (b : Byte) (h : m.wf = true) : (m.writeByte k b).readByte k = b := by
  suffices ∀ i, cellsFrom i m = true → (m.writeByte k b).readByte k = b from this 0 h
  intro i hi
  clear h
  induction m generalizing i with
  | nil => by_cases hb : b = unlistedByte <;> simp [Memory.writeByte, Memory.readByte, hb]
  | cons c rest ih =>
    obtain ⟨j, c⟩ := c
    simp only [cellsFrom, Bool.and_eq_true, decide_eq_true_eq] at hi
    obtain ⟨⟨hij, hc⟩, hr⟩ := hi
    simp only [Memory.writeByte]
    split
    · by_cases hb : b = unlistedByte
      · have : j ≠ k := by omega
        simp only [hb, if_true, Memory.readByte, this, if_false]
        exact readByte_below hr (by omega)
      · simp [hb, Memory.readByte]
    · split
      · by_cases hb : b = unlistedByte
        · simp only [hb, if_true]; exact readByte_below hr (by omega)
        · simp [hb, Memory.readByte]
      · simp only [Memory.readByte, *, if_false]; exact ih _ hr

/-- A byte written leaves every other cell. -/
theorem Memory.readByte_writeByte_ne (m : Memory) {k l : Nat} (b : Byte) (h : l ≠ k) :
    (m.writeByte k b).readByte l = m.readByte l := by
  induction m with
  | nil =>
    by_cases hb : b = unlistedByte
    · simp [Memory.writeByte, hb]
    · simp [Memory.writeByte, hb, Memory.readByte, Ne.symm h]
  | cons c rest ih =>
    obtain ⟨j, c⟩ := c
    simp only [Memory.writeByte]
    split
    · by_cases hb : b = unlistedByte
      · simp [hb]
      · simp [hb, Memory.readByte, Ne.symm h]
    · split
      · subst j
        by_cases hb : b = unlistedByte
        · simp [hb, Memory.readByte, Ne.symm h]
        · simp [hb, Memory.readByte, Ne.symm h]
      · simp [Memory.readByte, ih]

/-- A write of the bus keeps the canonical form. -/
theorem Memory.writeWord_wf {m : Memory} (a : Addr) (data : Word) (lanes : Lanes) (h : m.wf = true) :
    (m.writeWord a data lanes).wf = true := by
  unfold Memory.writeWord Memory.writeHigh Memory.writeLow
  split <;> split <;> simp only [Memory.writeByte_wf, h]

theorem lowCell_inj {a b : Addr} (h : lowCell a = lowCell b) : a = b := by
  apply BitVec.eq_of_toNat_eq; simp only [lowCell] at h; omega

/-- A write of the bus leaves every byte outside its word. -/
theorem Memory.readByte_writeWord_ne (m : Memory) (a : Addr) (data : Word) (lanes : Lanes) {k : Nat} (hl : k ≠ lowCell a)
    (hh : k ≠ highCell a) : (m.writeWord a data lanes).readByte k = m.readByte k := by
  unfold Memory.writeWord Memory.writeHigh Memory.writeLow
  split <;> split <;> simp [Memory.readByte_writeByte_ne, hl, hh]

/-- A write of the bus leaves every other word. -/
theorem Memory.readWord_writeWord_ne (m : Memory) {a b : Addr} (data : Word) (lanes : Lanes) (h : b ≠ a) :
    (m.writeWord a data lanes).readWord b = m.readWord b := by
  have h' : b.toNat ≠ a.toNat := fun e => h (BitVec.eq_of_toNat_eq e)
  simp only [Memory.readWord]
  rw [Memory.readByte_writeWord_ne, Memory.readByte_writeWord_ne] <;> simp only [lowCell, highCell] <;> omega

/-- A write of the bus gives its word the written byte in each enabled lane, and leaves the other. -/
theorem Memory.readWord_writeWord_same {m : Memory} (a : Addr) (data : Word) (lanes : Lanes) (h : m.wf = true) :
    (m.writeWord a data lanes).readWord a = mergeLanes lanes data (m.readWord a) := by
  have hne : lowCell a ≠ highCell a := by simp only [lowCell, highCell]; omega
  rcases lanes with ⟨_ | _, _ | _⟩ <;>
    simp [Memory.readWord, Memory.writeWord, Memory.writeHigh, Memory.writeLow, mergeLanes,
      Memory.readByte_writeByte_same, Memory.readByte_writeByte_ne, Memory.writeByte_wf, h, hne, Ne.symm hne]

end Sys2Proof.Machine
end

