-- ==== Sys2Proof/WellFormed.lean ====
section
/-! DEFINITION. Which commands are well formed: an operand that the row's own name shuts out. Every other operand value is
admitted by the spec, which refuses a bad one with a result code and not as a malformed command. -/

namespace Sys2Proof

/-- A command whose operands fit its row: UNKNOWN_COMMAND has a code from 0x09 to 0xFF (R161, 12.3), and an intent write or a
RING_CONSUMER write enables at least one byte lane (a lane-less write is dropped before it is classified as either, R87). -/
def Instr.wellFormed : Instr → Bool
  | .unknownCommand code _ => 9 ≤ code.toNat
  | .intentWrite _ _ lanes => lanes.high || lanes.low
  | .ringConsumer _ lanes => lanes.high || lanes.low
  | .powerOnReset | .lineReset | .resetEnd _ | .timeBasePulse => true
  | .goodByte _ _ | .framingError _ | .byteTimeout _ | .inertialFrame _ => true
  | .staleExpiry _ | .silenceExpiry _ | .dwellExpiry _ | .refreshDeadlineExpiry _ => true
  | .statBlinkToggle | .settleExpiry | .exitHoldExpiry | .frameLostExpiry | .framePulse => true
  | .start _ | .stop _ | .park _ | .release _ | .zero _ | .excite _ | .tcSet _ | .sourceReturn _ => true
  | .apply | .controllerWrite _ _ _ | .controllerRead _ _ => true
  | .queueHeadGrant | .refreshGrant | .boostGrant | .reportWordGrant | .ringWordGrant | .sweepReadGrant => true
  | .writeComplete | .ringWordDone | .sweepReadDone | .readReturn | .eventPending => true

end Sys2Proof
end

