-- ==== Sys2Proof/Tests/Slice0.lean ====
section
/-! SUPPORT. Tests: which commands are ill formed; one step of each command on a small state, with the values that the manual's worked
sequences give; and, for each statement of Certificates/Slice0/Obligations.lean that has hypotheses, a state and operands that meet them,
clause by clause (`witness_…`). Elab.async is off so that the kernel checks these theorems one at a time, in little memory. -/

namespace Sys2Proof.Tests

open Sys2Proof Sys2Proof.Machine

set_option Elab.async false

/-! ### Small states -/

/-- A page with the words of a list, the others 0. -/
def pageOfWords (words : List (Nat × Word)) : Page := words.foldl (fun p x => p.setWord (BitVec.ofNat 8 x.1) x.2) .zero

/-- The profile of the worked sequences of chapters 2, 3, 5 and 7: primary A, fallback, 30 frames a second, a ring of 40 records at page
602; T = 400, E = 40, settle 30 ms, exit hold 500 ms, boost at 0x00180; SOURCE_FALLBACK holds all, CONTROLLER_SILENT continues, LIMIT_DWELL
holds the axis; pan (axis 0) with an INTENT window at 0x00100 and a GUARD window around it, tilt (axis 1) with an INTENT window at 0x00110. -/
def words : List (Nat × Word) :=
  [(0x02, 0x001A), (0x03, 0x7FFF), (0x04, 602), (0x05, 40), (0x06, 400), (0x07, 0x1E28), (0x08, 5), (0x09, 0x8000), (0x0A, 0x0180),
    (0x0B, 0), (0x0C, 3), (0x0D, 0x0048), (0x0E, 0x4351), (0x0F, 0x0062), (0x10, 40),
    (0x20, 0x800C), (0x21, 0x0100), (0x22, 0xFFFF), (0x23, 0x900C), (0x24, 0x0110), (0x25, 0xFFFF), (0x26, 0xC00C), (0x27, 0x0100),
    (0x28, 0xFFF0)]
  ++ [(0x40, 0x0005), (0x41, 13107), (0x44, 512), (0x45, 0x0C0A), (0x46, 256), (0x47, 96), (0x48, 0xDCD8), (0x49, 9000), (0x4A, 20),
    (0x4B, 50), (0x4C, 2)]
  ++ [(0x60, 0x0003), (0x61, 13107), (0x65, 0x0C0A), (0x66, 256), (0x67, 96), (0x68, 0xF060), (0x69, 4000), (0x6A, 20), (0x6B, 50),
    (0x6C, 2)]

/-- The profile. -/
def page : Page := pageOfWords words

/-- A LIVE source's record. -/
def liveLink (seq : Byte) : Link := { assembly := .hunting, state := .live, lastSeq := seq, staleTimer := some 5, satSeen := false }

/-- The part after a reset has ended with page 600 on the straps. -/
def started : State := { State.reset with resetHeld := false, strapPage := 600 }

/-- The profile swept in, none applied. -/
def swept : State := { started with profile := { started.profile with shadow := page, sweep := .done } }

/-- The profile ACTIVE, source A selected with last sequence number 40 and bias (−2, 5, 3), every axis OFF, intents recorded. -/
def idle : State :=
  let s := { swept with
    profile := { swept.profile with active := some page }, links := ⟨liveLink 40, .reset⟩, selected := some .a
    bias := ⟨⟨-2, 5, 3⟩, ⟨0, 0, 0⟩⟩, faults := { swept.faults with pattern := .steady, lampLit := true } }
  (s.setAxis 0 { Axis.reset with intent := 1200, intentValid := true, outAddr := some 0x00100 }).setAxis 1
    { Axis.reset with intent := 2500, intentValid := true, outAddr := some 0x00110 }

/-- Pan STABILISING as at the head of the worked arithmetic of chapter 3. -/
def panning : State :=
  idle.setAxis 0 { idle.axis 0 with state := .stabilising, theta := 640000, output := 1100, correction := -500, silenceTimer := some 200 }

/-- Pan HELD by LIMIT_DWELL and SOURCE_FALLBACK, as at step 8 of the worked sequence of chapter 4, both classes over. -/
def holding : State :=
  idle.setAxis 0 { idle.axis 0 with
    state := .held, causes := { Causes.empty with limitDwell := true, sourceFallback := true }, theta := 895800, intent := 8600, output := 9000 }

/-- A line's frame buffer. -/
def withBuffer (s : State) (line : Source) (f : List Byte) : State := s.setLink line { s.link line with assembly := .collecting f }

/-- The worked frame of chapter 1: sequence 41, rates (10, −20, 35). -/
def frame41 : List Byte := [0x29, 0x0A, 0x00, 0xEC, 0xFF, 0x23, 0x00, 0x00, 0x34]

/-- The worked frame's bytes with another check byte. -/
def badFrame : List Byte := [0x29, 0xA5, 0x00, 0xEC, 0xFF, 0x23, 0x00, 0x00, 0x34]

/-- A transaction in progress on the M-port. -/
def withBusy (s : State) (t : MTxn) : State := { s with mport := { s.mport with busy := some t } }

/-- Entries waiting in the controller queue. -/
def withQueue (s : State) (q : List QEntry) : State := { s with cport := { s.cport with queue := q } }

/-- A staged record of a slot, and how many of its words are granted and written. -/
def staging (slot consumer granted position : Nat) : Ring :=
  { producer := slot, consumer := consumer, staged := some (Vector.replicate 12 7), slot := slot, granted := granted, position := position }

/-- No report word dirty. -/
def clean (s : State) : State := { s with report := { s.report with dirty := Vector.replicate 64 false } }

/-- The state a command gives, or the state itself where it gives none. -/
def after (c : Instr) (s : State) : State :=
  match exec c s with
  | .next t => t
  | .fault _ => s
  | .refused _ => s

/-! ### Ill-formed commands -/

theorem test_unknown_command_needs_an_unknown_code : (Instr.unknownCommand 0x08 0).wellFormed = false := by decide +kernel
theorem test_unknown_command_takes_code_9 : (Instr.unknownCommand 0x09 0).wellFormed = true := by decide +kernel
theorem test_intent_write_needs_a_lane : (Instr.intentWrite 0x100 5 .neither).wellFormed = false := by decide +kernel
theorem test_ring_consumer_needs_a_lane : (Instr.ringConsumer 5 .neither).wellFormed = false := by decide +kernel
theorem test_no_word_spells_a_command : decodeTableWord 16 0x00A5 = none := by decide +kernel

/-! ### Resets, pulses, straps -/

/-- R39, R108: the power-on reset clears the biases, the line reset keeps them. -/
theorem test_power_on_reset_clears_biases : (after .powerOnReset panning).bias = ⟨⟨0, 0, 0⟩, ⟨0, 0, 0⟩⟩ := by decide +kernel
theorem test_line_reset_keeps_biases :
    (after .lineReset panning).bias.a = ⟨-2, 5, 3⟩ ∧ ((after .lineReset panning).axis 0).state = .off := by decide +kernel
/-- R81: the report page follows page 1,023 as page 0. -/
theorem test_reset_end_wraps_the_report_page : (after (.resetEnd 1023) State.reset).classify 0x00010 = .reportWord 0x10 := by decide +kernel
theorem test_pulse_counts_down : ((after .timeBasePulse panning).axis 0).silenceTimer = some 199 := by decide +kernel
theorem test_pulse_waits_for_the_reset : after .timeBasePulse State.reset = State.reset := rfl

/-! ### The link (chapter 1) -/

/-- R4: the worked frame's check byte. -/
theorem test_worked_check_byte : crc [0x29, 0x0A, 0x00, 0xEC, 0xFF, 0x23, 0x00, 0x00] = 0x34 := by decide +kernel
theorem test_good_byte_syncs : ((after (.goodByte .b 0xA5) idle).link .b).assembly = .collecting [] := by decide +kernel
theorem test_good_byte_joins : ((after (.goodByte .b 7) (withBuffer idle .b [1])).link .b).assembly = .collecting [1, 7] := by decide +kernel
theorem test_framing_error_hunts : ((after (.framingError .a) (withBuffer idle .a [1])).link .a).assembly = .hunting := by decide +kernel
theorem test_byte_timeout_hunts : ((after (.byteTimeout .a) (withBuffer idle .a [1])).link .a).assembly = .hunting := by decide +kernel
/-- Chapters 2 and 3, arrival of sequence 41: θ 639,876, c −500, output 844 with RATE, count 1. -/
theorem test_worked_arrival :
    let t := after (.inertialFrame .a) (withBuffer panning .a frame41)
    (t.axis 0).theta = 639876 ∧ (t.axis 0).correction = -500 ∧ (t.axis 0).output = 844 ∧ (t.axis 0).rate = true ∧ (t.axis 0).refreshCount = 1 := by
  decide +kernel
/-- R7: the bytes after the first 0xA5 of a frame that failed its check begin the next. -/
theorem test_failed_frame_is_rescanned :
    ((after (.inertialFrame .a) (withBuffer idle .a badFrame)).link .a).assembly = .collecting [0x00, 0xEC, 0xFF, 0x23, 0x00, 0x00, 0x34] := by
  decide +kernel
/-- R14, R132: with A gone and B absent nothing is selected. -/
theorem test_stale_expiry_loses_the_source :
    let t := after (.staleExpiry .a) (idle.setLink .a { liveLink 40 with staleTimer := some 0 })
    t.selected = none ∧ t.faults.sourceLost = true ∧ t.isPending .sourceSwitch = true := by decide +kernel
/-- Chapter 4, step 3: the fallback to B holds every active axis. -/
theorem test_stale_expiry_falls_back :
    let s := { panning with links := ⟨{ liveLink 40 with staleTimer := some 0 }, liveLink 3⟩ }
    (after (.staleExpiry .a) s).selected = some .b ∧ ((after (.staleExpiry .a) s).axis 0).causes.sourceFallback = true := by decide +kernel

/-! ### Expiries -/

/-- R67, R139: CONTROLLER_SILENT under CONTINUE sends the axis to COASTING. -/
theorem test_silence_expiry_coasts :
    let t := after (.silenceExpiry 0) (panning.setAxis 0 { panning.axis 0 with silenceTimer := some 0 })
    (t.axis 0).state = .coasting ∧ (t.axis 0).silentActive = true := by decide +kernel
/-- Chapter 4, step 1: LIMIT_DWELL under HOLD_AXIS holds the axis and lapses at once. -/
theorem test_dwell_expiry_holds :
    let t := after (.dwellExpiry 0) (panning.setAxis 0 { panning.axis 0 with dwellTimer := some 0, limit := true })
    (t.axis 0).state = .held ∧ (t.axis 0).causes.limitDwell = true ∧ (t.axis 0).limitDwellActive = false ∧
      t.isPending .faultCleared = true := by decide +kernel
/-- R57, R136: under CONTINUE the refresh stays pending. -/
theorem test_refresh_deadline_is_late :
    let t := after (.refreshDeadlineExpiry 0) (panning.setAxis 0 { panning.axis 0 with refreshPending := true, deadlineTimer := some 0 })
    (t.axis 0).lateActive = true ∧ (t.axis 0).refreshPending = true := by decide +kernel
theorem test_blink_toggles :
    (after .statBlinkToggle { idle with faults := { idle.faults with pattern := .fastBlink, lampLit := true, blinkTimer := some 0 } }).faults
      = { idle.faults with pattern := .fastBlink, lampLit := false, blinkTimer := some 125 } := by decide +kernel
theorem test_settle_expiry_is_rough :
    (after .settleExpiry { idle with severity := { Severity.reset with level := 9, state := .boosting, settleTimer := some 0 } }).severity
      = { Severity.reset with level := 9, state := .rough } := by decide +kernel
theorem test_exit_hold_expiry_is_calm :
    (after .exitHoldExpiry { idle with severity := { Severity.reset with state := .easing, exitHoldTimer := some 0 } }).severity
      = { Severity.reset with boostHeld := some 0 } := by decide +kernel
theorem test_frame_lost_expiry :
    (after .frameLostExpiry { idle with timecode := { idle.timecode with frameLostTimer := some 0 } }).faults.frameLost = true := by decide +kernel

/-! ### FRAME pulses (chapter 10) -/

/-- R145: 10:59:59 and the last frame at 30 a second becomes 11:00:00:00. -/
theorem test_frame_pulse_carries :
    (after .framePulse { idle with timecode := { idle.timecode with time := ⟨10, 59, 59, 29⟩, valid := true } }).timecode.time
      = ⟨11, 0, 0, 0⟩ := by decide +kernel
/-- R150: a pulse that finds the ring full raises RING_OVERRUN. -/
theorem test_frame_pulse_overruns :
    (after .framePulse { idle with ring := { Ring.reset with producer := 39 } }).isPending .ringOverrun = true := by decide +kernel

/-! ### Commands -/

/-- R49: START clamps the intent into the soft limits. -/
theorem test_start_clamps_the_intent :
    let t := after (.start 0) (idle.setAxis 0 { idle.axis 0 with intent := 9400 })
    (t.axis 0).output = 9000 ∧ (t.axis 0).state = .stabilising ∧ t.profile.cmdResult = .done := by decide +kernel
theorem test_start_of_axis_4 : (after (.start 4) idle).profile.cmdResult = .badAxis := by decide +kernel
theorem test_stop_keeps_the_output :
    let t := after (.stop 0) panning
    (t.axis 0).state = .off ∧ (t.axis 0).output = 1100 ∧ (t.axis 0).silenceTimer = none := by decide +kernel
theorem test_park_freezes : ((after (.park 0) panning).axis 0).causes = { Causes.empty with command := true } := by decide +kernel
theorem test_park_of_an_off_axis : (after (.park 0) idle).profile.cmdResult = .wrongState := by decide +kernel
/-- Chapter 4, step 8: the release of pan. -/
theorem test_worked_release :
    let t := after (.release 0) holding
    (t.axis 0).correction = -700 ∧ (t.axis 0).output = 8744 ∧ (t.axis 0).rate = true ∧ (t.axis 0).refreshPending = true := by decide +kernel
/-- Chapter 4, step 4: a release that a class still active refuses. -/
theorem test_release_is_blocked :
    (after (.release 0) { holding with faults := { holding.faults with sourceFallback := true } }).profile.cmdResult = .faultActive := by decide +kernel
theorem test_zero_runs : (after (.zero 0) idle).zeroResult = .running .a := by decide +kernel
/-- Chapter 8: the worked shake test's burst. -/
theorem test_excite_runs :
    let p := (((page.setWord 0xC0 0x0001).setWord 0xC1 100).setWord 0xC2 100).setWord 0xC3 400
    let s := idle.setAxis 1 { idle.axis 1 with state := .stabilising }
    (after (.excite 0) { s with profile := { s.profile with shadow := p } }).burst = ⟨.running, 1, .square, 100, 100, 400, 0, 0x7FFF, 100⟩ := by decide +kernel
theorem test_excite_with_half_period_0 : (after (.excite 0) panning).profile.cmdResult = .badParam := by decide +kernel
theorem test_tc_set_holds_the_time :
    let p := (page.setWord 0xC4 0x0A0E).setWord 0xC5 0x3B16
    (after (.tcSet 0) { idle with profile := { idle.profile with shadow := p } }).timecode.pendingSet = some ⟨10, 14, 59, 22⟩ := by decide +kernel
theorem test_tc_set_frame_30_at_30 :
    (after (.tcSet 0) { idle with profile := { idle.profile with shadow := page.setWord 0xC5 0x001E } }).profile.cmdResult = .badTime := by decide +kernel
theorem test_source_return_takes_the_primary :
    let s := { idle with selected := some .b, links := ⟨liveLink 3, liveLink 5⟩, faults := { idle.faults with sourceFallback := true } }
    (after (.sourceReturn 0) s).selected = some .a ∧ (after (.sourceReturn 0) s).faults.sourceFallback = false := by decide +kernel
theorem test_unknown_command : (after (.unknownCommand 0xFF 0) idle).reportWord .commandResult = 0xFF05 := by decide +kernel
theorem test_apply_is_accepted : (after .apply swept).reportWord .applyResult = 0x0100 := by decide +kernel
/-- R165: RING_LENGTH 81 is charged to its own offset. -/
theorem test_apply_reports_the_offset :
    (after .apply { swept with profile := { swept.profile with shadow := page.setWord 5 81 } }).reportWord .applyResult = 0x0305 := by decide +kernel

/-! ### The windows and the C-port (chapters 5 and 6) -/

/-- Chapter 3's variant: an intent of 1,250 composes at once. -/
theorem test_worked_intent_write :
    let s := panning.setAxis 0 { panning.axis 0 with theta := 639876, output := 844, rate := true }
    let t := after (.intentWrite 0x00100 1250 .both) s
    (t.axis 0).output = 750 ∧ (t.axis 0).rate = false := by decide +kernel
theorem test_intent_write_merges_its_lanes :
    ((after (.intentWrite 0x00100 0x00F4 ⟨false, true⟩) idle).axis 0).intent = 0x04F4 := by decide +kernel
theorem test_ring_consumer_past_the_producer :
    let s := { idle with ring := { Ring.reset with producer := 5, consumer := 2 } }
    (after (.ringConsumer 5 .both) s).ring.consumer = 5 ∧ (after (.ringConsumer 6 .both) s).isPending .strayWrite = true := by decide +kernel
theorem test_guarded_write_is_discarded :
    let t := after (.controllerWrite 0x00105 1 .both) panning
    t.cport.queue = [] ∧ t.isPending .strayWrite = true := by decide +kernel
theorem test_guarded_write_of_an_off_axis : (after (.controllerWrite 0x00105 1 .both) idle).cport.queue.length = 1 := by decide +kernel
theorem test_read_closes_the_port : (after (.controllerRead 0x00100 .both) idle).cportOpen = false := by decide +kernel

/-! ### The M-port -/

/-- Chapter 6: the write of intent 1,200 leaves with the output. -/
theorem test_head_grant_carries_the_output :
    let s := withQueue panning [{ txn := .write 0x00100 1200 .both, bind := some 0 }]
    (after .queueHeadGrant s).mport.busy = some ⟨.controllerWrite, 0x00100, 1100, .both⟩ := by decide +kernel
theorem test_refresh_grant_clears_the_mark :
    let s := panning.setAxis 0 { panning.axis 0 with refreshPending := true, deadlineTimer := some 1 }
    (after .refreshGrant s).mport.busy = some ⟨.refresh 0, 0x00100, 1100, .both⟩ ∧ ((after .refreshGrant s).axis 0).refreshPending = false := by
  decide +kernel
theorem test_boost_grant :
    (after .boostGrant { idle with severity := { idle.severity with boostHeld := some 3 } }).mport.busy
      = some ⟨.boost, 0x00180, 3, .both⟩ := by decide +kernel
theorem test_report_word_grant_takes_the_lowest :
    (after .reportWordGrant idle).mport.busy = some ⟨.report, addrAt 601 0, 0x4120, .both⟩ := by decide +kernel
theorem test_ring_word_grant :
    let s := clean { idle with ring := staging 2 0 11 11 }
    (after .ringWordGrant s).mport.busy = some ⟨.ringWord true, 0x25A23, 7, .both⟩ ∧ (after .ringWordGrant s).ringWaiting = false := by
  decide +kernel
theorem test_sweep_read_grant : (after .sweepReadGrant (clean started)).mport.busy = some ⟨.sweepRead, addrAt 600 0, 0, .both⟩ := by decide +kernel
theorem test_write_complete_stores_its_lane :
    let s := withBusy { idle with ram := [(0x400, 0x11), (0x401, 0x22)] } ⟨.controllerWrite, 0x00200, 0xAABB, ⟨true, false⟩⟩
    (after .writeComplete s).ram = [(0x400, 0x11), (0x401, 0xAA)] := by decide +kernel
/-- R152: the last word's ready publishes the record; p wraps from N − 1 to 0. -/
theorem test_last_ring_word_publishes :
    let s := withBusy { idle with ring := staging 39 5 12 11 }
      ⟨.ringWord true, 0x25BDF, 0, .both⟩
    let r := (after .ringWordDone s).ring
    r.producer = 0 ∧ r.consumer = 5 ∧ r.staged = none := by decide +kernel
theorem test_sweep_read_done_respects_touched :
    let s := withBusy { started with ram := [(0x25800 * 2 + 6, 9)] } ⟨.sweepRead, addrAt 600 3, 0, .both⟩
    let s := { s with profile := { s.profile with sweep := .sweeping 3 } }
    (after .sweepReadDone s).profile.shadow.word 3 = 9 ∧
      (after .sweepReadDone { s with profile := { s.profile with touched := s.profile.touched.set 3 true } }).profile.shadow.word 3 = 0 := by
  decide +kernel
/-- R93: read-back of an active axis's output, the RAM's word for an OFF axis. -/
theorem test_read_return_reads_back :
    let t : MTxn := ⟨.controllerRead (some 0), 0x00100, 0, .both⟩
    (after .readReturn (withBusy panning t)).cport.readData = some 1100 ∧ (after .readReturn (withBusy idle t)).cport.readData = some 0 := by decide +kernel
/-- R164: the return of EVENT_PENDING clears the events it returned, and no other. -/
theorem test_event_pending_clears_what_it_returned :
    let s := ((withBusy idle ⟨.controllerRead none, addrAt 601 2, 0, .both⟩).raise .applyDone).raise .zeroDone
    let t := after .eventPending { s with ram := [(0x25902 * 2, 0x03)] }
    t.isPending .applyDone = false ∧ t.isPending .zeroDone = true := by decide +kernel

/-! ### States that meet the statements' hypotheses -/

theorem witness_step_front : ({ idle with pending := [.zero 0, .framePulse] } : State).pending = .zero 0 :: [.framePulse] ∧ idle.pending = [] := by
  decide +kernel

theorem witness_cut_write : ∃ w, (withBusy idle ⟨.boost, 0x00180, 3, .both⟩).mport.busy = some w ∧ w.isWrite = true :=
  ⟨⟨.boost, 0x00180, 3, .both⟩, by decide +kernel⟩

theorem witness_reset_end : State.reset.resetHeld = true ∧ State.reset.cport.offered = [] := by decide +kernel

theorem witness_pulse : panning.resetHeld = false ∧ State.reset.resetHeld = true := by decide +kernel

theorem witness_timer : panning.resetHeld = false ∧ panning.timer (.silence 0) = some 200 ∧ panning.timer .blink = none ∧
    (panning.setAxis 0 { panning.axis 0 with silenceTimer := some 0 }).timer (.silence 0) = some 0 := by decide +kernel

theorem witness_no_occasion_timer : panning.timer (.silence 0) ≠ some 0 ∧ panning.timer .settle ≠ some 0 := by decide +kernel

theorem witness_no_occasion_frame : ∀ f, ((withBuffer idle .a [1, 2, 3, 4, 5, 6, 7, 8]).link .a).assembly = .collecting f → f.length ≠ 9 := by
  intro f h
  have h' : Assembly.collecting [1, 2, 3, 4, 5, 6, 7, 8] = .collecting f := h
  cases h'
  decide

theorem witness_no_occasion_port : idle.mport.busy = none ∧ idle.resetHeld = false ∧ State.reset.resetHeld = true ∧
    (withBusy idle ⟨.boost, 0x00180, 3, .both⟩).mport.busy ≠ none := by decide +kernel

theorem witness_no_occasion_head : idle.cport.queue = [] ∧ ownWaits idle = true ∧
    ({ idle with mport := { idle.mport with starvation := 4 } } : State).mport.starvation = 4 := by decide +kernel

theorem witness_no_occasion_own :
    let s := withQueue idle [{ txn := .write 0x00200 1 .both, bind := none }]
    s.cport.queue ≠ [] ∧ s.mport.starvation < 4 ∧ refreshWaits s = false ∧ s.severity.boostHeld = none ∧ reportWaits s = true ∧
      reportWaits (clean s) = false ∧ ringWaits s = false ∧ sweepWaits s = false := by decide +kernel

/-! The inertial link. -/

theorem witness_line_hunting : idle.resetHeld = false ∧ (idle.link .b).assembly = .hunting := by decide +kernel

theorem witness_line_collecting : (withBuffer idle .b [1, 2, 3, 4, 5, 6, 7, 8]).resetHeld = false ∧
    ((withBuffer idle .b [1, 2, 3, 4, 5, 6, 7, 8]).link .b).assembly = .collecting [1, 2, 3, 4, 5, 6, 7, 8] ∧
    [1, 2, 3, 4, 5, 6, 7, 8].length ≠ 9 := by decide +kernel

theorem witness_line_complete : FrameReady (withBuffer idle .b frame41) .b frame41 := by unfold FrameReady; decide +kernel

theorem witness_line_reset : State.reset.resetHeld = true := by decide +kernel

theorem witness_check_byte : ([0x29, 0x0A, 0x00, 0xEC, 0xFF, 0x23, 0x00, 0x00] : List Byte).length = 8 := by decide

theorem witness_failed_check : FrameReady (withBuffer idle .a badFrame) .a badFrame ∧ frameCheck badFrame = false := by
  unfold FrameReady; decide +kernel

/-- A frame with the self-test bit set. -/
def selfTestFrame : List Byte := [0x29, 0, 0, 0, 0, 0, 0, 0x02, crc [0x29, 0, 0, 0, 0, 0, 0, 0x02]]

theorem witness_self_test : FrameReady (withBuffer idle .a selfTestFrame) .a selfTestFrame ∧ frameCheck selfTestFrame = true ∧
    (frameByte selfTestFrame 8).getLsbD 1 = true := by unfold FrameReady; decide +kernel

theorem witness_unselected_frame : FrameReady (withBuffer idle .b frame41) .b frame41 ∧ frameCheck frame41 = true ∧
    (frameByte frame41 8).getLsbD 1 = false ∧ idle.selected ≠ some .b ∧ idle.selected ≠ none := by unfold FrameReady; decide +kernel

/-- The profile ACTIVE and no source LIVE. -/
def sourceless : State := { idle with links := ⟨.reset, .reset⟩, selected := none, faults := { idle.faults with sourceLost := true } }

theorem witness_becoming_live : FrameReady (withBuffer sourceless .b frame41) .b frame41 ∧ Acceptable frame41 ∧
    (withBuffer sourceless .b frame41).profileActive = true ∧ (withBuffer sourceless .b frame41).selected = none ∧
    ((withBuffer sourceless .b frame41).link .b).state ≠ .live := by unfold FrameReady Acceptable; decide +kernel

/-- Pan STABILISING with no source selected. -/
def adrift : State := { panning with links := sourceless.links, selected := none, faults := sourceless.faults }

/-- A frame that selects the primary, one that selects the fallback under HOLD_ALL, and one that selects nothing. -/
theorem witness_first_arrival : (after (.inertialFrame .a) (withBuffer adrift .a frame41)).selected = some .a ∧
    ((after (.inertialFrame .a) (withBuffer adrift .a frame41)).axis 0).theta = 640000 + 32 - 156 ∧
    (after (.inertialFrame .b) (withBuffer adrift .b frame41)).selected = some .b ∧
    ((after (.inertialFrame .b) (withBuffer adrift .b frame41)).axis 0).state = .held ∧
    (after (.inertialFrame .b) (withBuffer { adrift with profile := { adrift.profile with active := some (page.setWord 2 0x18) } } .b
      frame41)).selected = none ∧ adrift.burst.state = .idle := by decide +kernel

/-- A's stale timer run out. -/
def staleA (s : State) : State := s.setLink .a { s.link .a with staleTimer := some 0 }

theorem witness_stale_selected : ((staleA panning).link .a).staleTimer = some 0 ∧ (staleA panning).selected = some .a ∧
    (staleA panning).profileActive = true := by decide +kernel

theorem witness_stale_unselected : ((staleA { idle with selected := some .b }).link .a).staleTimer = some 0 ∧
    (staleA { idle with selected := some .b }).selected ≠ some .a := by decide +kernel

/-- B LIVE as well, and fallback allowed without a hold. -/
def withB (s : State) : State :=
  { s with links := ⟨s.links.a, liveLink 7⟩, profile := { s.profile with active := some (page.setWord 0x0D 0x0040) } }

theorem witness_stale_capture : (staleA { idle with capture := ⟨.running, .a, ⟨0, 0, 0⟩, 7⟩ }).capture.state = .running ∧
    (staleA idle).capture.state = .idle := by decide +kernel

/-! Arrivals. -/

/-- A state at the arrival of the worked frame. -/
def arriving (s : State) : State := withBuffer s .a frame41

theorem witness_arrival : ArrivalReady (arriving panning) .a frame41 := by unfold ArrivalReady FrameReady Acceptable; decide +kernel

theorem witness_arrival_states : ((arriving panning).axis 0).state = .stabilising ∧
    ((arriving (panning.setAxis 0 { panning.axis 0 with state := .coasting })).axis 0).state = .coasting := by decide +kernel

theorem witness_arrival_level : severityArrived page false Severity.reset = Severity.reset ∧
    severityArrived page true { Severity.reset with level := 38 } =
      { Severity.reset with level := 40, state := .boosting, settleTimer := some 30, boostHeld := some 3 } := by decide +kernel

/-- The worked shake test's burst with a number of arrivals to go. -/
def shaking (remaining : Nat) : State :=
  { arriving panning with burst := ⟨.running, 0, .square, 100, 100, remaining, 0, 0x7FFF, 100⟩, exciteResult := .running 0 }

theorem witness_arrival_burst : ArrivalReady (shaking 2) .a frame41 ∧ (arriving panning).burst.state = .idle ∧
    (shaking 2).burst.state = .running ∧ (shaking 2).burst.remaining = 2 ∧ (shaking 1).burst.remaining = 1 := by
  unfold ArrivalReady FrameReady Acceptable; decide +kernel

/-- A capture before its 1,024th arrival or earlier, with a stillness threshold. -/
def capturing (count : Nat) (stillness : Word) : State :=
  let p := page.setWord 0x10 stillness
  { arriving idle with capture := ⟨.running, .a, ⟨-2100, 5320, 3065⟩, count⟩, zeroResult := .running .a,
                       profile := { idle.profile with active := some p } }

theorem witness_arrival_capture : ArrivalReady (capturing 1023 40) .a frame41 ∧ (arriving idle).capture.state = .idle ∧
    (capturing 1023 40).capture = ⟨.running, .a, ⟨-2100, 5320, 3065⟩, 1023⟩ ∧ (capturing 0 40).capture = ⟨.running, .a, ⟨-2100, 5320, 3065⟩, 0⟩ ∧
    (capturing 0 40).page.stillness = 40 ∧ (capturing 0 34).page.stillness < (frameRates frame41).z.natAbs ∧
    (frameRates frame41).z.natAbs = 35 := by unfold ArrivalReady FrameReady Acceptable; decide +kernel

/-- A selection between A and B leaves a burst running; one to NONE aborts it. -/
theorem witness_stale_burst : (staleA (withB (shaking 2))).burst.state = .running ∧ (staleA (shaking 2)).selected = some .a ∧
    (after (.staleExpiry .a) (staleA (withB (shaking 2)))).burst = (shaking 2).burst ∧
    (after (.staleExpiry .a) (staleA (withB (shaking 2)))).selected = some .b ∧
    (after (.staleExpiry .a) (staleA (shaking 2))).exciteResult = .aborted 0 := by decide +kernel

/-- Chapter 2's worked capture: the sums −2,090, 5,300 and 3,100 give the biases −2, 5 and 3. -/
theorem test_worked_capture : (after (.inertialFrame .a) (capturing 1023 40)).bias.a = ⟨-2, 5, 3⟩ := by decide +kernel

/-! Expiries. -/

/-- A FAULT_POLICY word with one policy for classes 3 to 5: 0 CONTINUE, 1 HOLD_AXIS, 2 HOLD_ALL. -/
def policyWord (n : Nat) : Word := BitVec.ofNat 16 (n * 0x150)

/-- Pan with its three timers run out under a policy. -/
def expiring (n : Nat) : State :=
  let p := page.setWord 0x0D (policyWord n)
  { panning.setAxis 0 { panning.axis 0 with silenceTimer := some 0, dwellTimer := some 0, refreshPending := true, deadlineTimer := some 0 } with
    profile := { idle.profile with active := some p } }

theorem witness_axis_expiries : ∀ n ∈ [0, 1, 2], ((expiring n).axis 0).silenceTimer = some 0 ∧ (expiring n).profileActive = true ∧
    (expiring n).page.policyOk = true ∧
    ((expiring n).axis 0).state = .stabilising ∧ ((expiring n).axis 0).dwellTimer = some 0 ∧
    ((expiring n).axis 0).limitDwellActive = false ∧ ((expiring n).axis 0).deadlineTimer = some 0 ∧
    ((expiring n).axis 0).refreshPending = true ∧ ((expiring n).axis 0).lateActive = false := by decide +kernel

theorem witness_policies : (expiring 0).page.policy .controllerSilent = .continue ∧ (expiring 1).page.policy .controllerSilent = .holdAxis ∧
    (expiring 2).page.policy .controllerSilent = .holdAll ∧ (expiring 0).page.policy .limitDwell = .continue ∧
    (expiring 1).page.policy .limitDwell = .holdAxis ∧ (expiring 2).page.policy .limitDwell = .holdAll ∧
    (expiring 0).page.policy .refreshLate = .continue ∧ (expiring 1).page.policy .refreshLate = .holdAxis ∧
    (expiring 2).page.policy .refreshLate = .holdAll := by decide +kernel

theorem witness_blink : ({ idle with faults := { idle.faults with pattern := .slowBlink, blinkTimer := some 0 } } : State).faults.blinkTimer = some 0 ∧
    ({ idle with faults := { idle.faults with pattern := .slowBlink, blinkTimer := some 0 } } : State).faults.pattern = .slowBlink ∧
    ({ idle with faults := { idle.faults with pattern := .fastBlink, blinkTimer := some 0 } } : State).faults.pattern = .fastBlink := by
  decide +kernel

theorem witness_severity_timers :
    ({ idle with severity := { Severity.reset with state := .boosting, settleTimer := some 0 } } : State).severity.settleTimer = some 0 ∧
    ({ idle with severity := { Severity.reset with state := .easing, exitHoldTimer := some 0 } } : State).severity.exitHoldTimer = some 0 := by
  decide +kernel

theorem witness_frame_lost :
    ({ idle with timecode := { idle.timecode with frameLostTimer := some 0 } } : State).timecode.frameLostTimer = some 0 ∧
    idle.profileActive = true ∧ idle.faults.frameLost = false ∧ idle.resetHeld = false := by decide +kernel

/-! FRAME pulses. -/

/-- A VALID timecode at the last frame of a day. -/
def midnight : State := { idle with timecode := { idle.timecode with time := ⟨23, 59, 59, 29⟩, valid := true } }

theorem witness_timecode : TimecodeInRange midnight ∧ midnight.timecode.pendingSet = none ∧ midnight.timecode.valid = true ∧
    idle.timecode.valid = false := by
  refine ⟨⟨fun _ => by decide +kernel, fun p h => ?_⟩, by decide +kernel⟩
  have h' : (none : Option Time) = some p := h
  cases h'

theorem witness_pending_set : TimecodeInRange { idle with timecode := { idle.timecode with pendingSet := some ⟨23, 59, 59, 29⟩ } } := by
  refine ⟨fun h => absurd h (by decide +kernel), fun p h => ?_⟩
  have h' : some (⟨23, 59, 59, 29⟩ : Time) = some p := h
  cases h'
  decide +kernel

theorem witness_record : idle.ringEnabled = true ∧ idle.ring.staged = none ∧ (idle.ring.producer + 1) % idle.page.ringLength ≠ idle.ring.consumer ∧
    swept.ringEnabled = false ∧
    (({ idle with ring := { Ring.reset with producer := 39 } } : State).ring.producer + 1) % idle.page.ringLength = 0 := by
  decide +kernel

/-! Commands. -/

theorem witness_ready : CommandReady idle ∧ CommandReady panning ∧ CommandReady holding := by unfold CommandReady CportTakes; decide +kernel

theorem witness_burst_free : BurstOnStabilising idle ∧ BurstOnStabilising panning ∧ BurstOnStabilising holding ∧ BurstOnStabilising (shaking 2) := by
  unfold BurstOnStabilising; decide +kernel

theorem witness_common_tests : CportTakes started ∧ started.profile.sweep ≠ .done ∧ CportTakes swept ∧ swept.profile.sweep = .done ∧
    swept.profileActive = false ∧ (1 : Byte).toNat ≤ 4 ∧ 3 < (4 : Byte).toNat ∧ 8 < (9 : Byte).toNat := by unfold CportTakes; decide +kernel

theorem witness_start_refusals : idle.page.enabled 2 = false ∧ (panning.axis 0).state ≠ .off ∧
    ((idle.setAxis 0 { idle.axis 0 with intentValid := false }).axis 0).intentValid = false ∧ sourceless.selected = none ∧
    (∃ c ∈ FaultClass.all, ({ idle with faults := { idle.faults with sourceFallback := true } } : State).page.policy c = .holdAll ∧
      ({ idle with faults := { idle.faults with sourceFallback := true } } : State).classActive c = true) := by
  refine ⟨by decide +kernel, by decide +kernel, by decide +kernel, by decide +kernel, .sourceFallback, by decide +kernel⟩

theorem witness_start : idle.page.enabled 0 = true ∧ (idle.axis 0).state = .off ∧ (idle.axis 0).intentValid = true ∧ idle.selected ≠ none ∧
    ∀ c ∈ FaultClass.all, ¬ (idle.page.policy c = .holdAll ∧ idle.classActive c = true) := by decide +kernel

theorem witness_axis_states : (idle.axis 0).state = .off ∧ (panning.axis 0).state = .stabilising ∧ (holding.axis 0).state = .held ∧
    ((expiring 0).axis 0).state ≠ .off := by decide +kernel

theorem witness_release_blocked :
    ({ holding with faults := { holding.faults with sourceFallback := true } } : State).faults.sourceFallback = true ∧
    (holding.axis 0).causes.sourceFallback = true ∧ holding.faults.sourceFallback = false ∧ (holding.axis 0).limitDwellActive = false ∧
    (holding.axis 0).causes.sourceLost = false ∧ (holding.axis 0).causes.controllerSilent = false ∧
    (holding.axis 0).causes.refreshLate = false := by decide +kernel

theorem witness_zero : sourceless.selected = none ∧ CommandReady sourceless ∧ CommandReady { idle with capture := ⟨.running, .a, ⟨0, 0, 0⟩, 0⟩ } ∧
    idle.selected = some .a ∧ idle.capture.state = .idle := by unfold CommandReady CportTakes; decide +kernel

/-- A request block in the shadow. -/
def requesting (s : State) (w0 w1 w2 w3 : Word) : State :=
  { s with profile := { s.profile with shadow := (((page.setWord 0xC0 w0).setWord 0xC1 w1).setWord 0xC2 w2).setWord 0xC3 w3 } }

theorem witness_excite_ready : CommandReady (requesting panning 0x0100 4095 4095 1) ∧ CommandReady (requesting panning 4 0 1 1) := by
  unfold CommandReady CportTakes; decide +kernel

theorem witness_excite : ∀ s ∈ [requesting panning 0x0100 4095 4095 1, requesting idle 0x0100 4095 4095 1, requesting (shaking 1) 0 0 1 1],
    (lowByte (s.profile.shadow.word 0xC0)).toNat = 0 ∧ (highByte (s.profile.shadow.word 0xC0)).toNat ≤ 1 ∧
    (s.profile.shadow.word 0xC1).toNat ≤ 4095 ∧ 1 ≤ (s.profile.shadow.word 0xC2).toNat ∧ (s.profile.shadow.word 0xC2).toNat ≤ 4095 ∧
    1 ≤ (s.profile.shadow.word 0xC3).toNat := by decide +kernel

theorem witness_excite_bad : 3 < (lowByte ((requesting panning 4 0 1 1).profile.shadow.word 0xC0)).toNat ∧
    1 < (highByte ((requesting panning 0x0200 0 1 1).profile.shadow.word 0xC0)).toNat ∧
    4095 < ((requesting panning 0 4096 1 1).profile.shadow.word 0xC1).toNat ∧ ((requesting panning 0 0 0 1).profile.shadow.word 0xC2).toNat = 0 ∧
    ((requesting panning 0 0 1 0).profile.shadow.word 0xC3).toNat = 0 ∧
    (requesting { panning with selected := none } 0 0 1 1).selected = none := by decide +kernel

theorem witness_tc_set : CportTakes swept ∧ swept.profile.sweep = .done ∧ swept.timecode.rate.perSecond = 30 ∧
    (lowByte ((page.setWord 0xC5 0x3B1D).word 0xC5)).toNat = 29 ∧ (lowByte ((page.setWord 0xC5 0x3B1E).word 0xC5)).toNat = 30 := by
  unfold CportTakes; decide +kernel

theorem witness_source_return : idle.selected = some idle.page.primary ∧ sourceless.selected ≠ some sourceless.page.primary ∧
    (sourceless.link sourceless.page.primary).state ≠ .live ∧ ({ idle with selected := some .b } : State).selected ≠ some idle.page.primary ∧
    (idle.link idle.page.primary).state = .live := by decide +kernel

/-! Applies. -/

theorem witness_apply : CportTakes swept ∧ swept.profile.sweep = .done ∧
    (swept.profile.shadow.setWord 1 0x00A5).rangeFault swept.strapPage = none ∧ (swept.profile.shadow.setWord 1 0x00A5).priorityOk = true ∧
    (swept.profile.shadow.setWord 1 0x00A5).policyOk = true ∧ ∀ a, (swept.axis a).state = .off := by unfold CportTakes; decide +kernel

theorem witness_apply_again : CportTakes panning ∧ panning.profile.active = some page ∧
    structuralDiffer page (panning.profile.shadow.setWord 1 0x00A5) = false ∧ (panning.axis 0).state ≠ .off :=
  ⟨by unfold CportTakes; decide +kernel, rfl, by decide +kernel, by decide +kernel⟩

theorem witness_apply_refusals : started.profile.sweep ≠ .done ∧ (page.setWord 5 81).rangeFault 600 = some 5 ∧
    (page.setWord 0x0E 0x4551).priorityOk = false ∧ (page.setWord 0x0D 0x0001).policyOk = false ∧
    structuralDiffer page (page.setWord 0x49 9001) = true := by decide +kernel

/-- The first profile, and one that changes neither windows nor ring nor boost. -/
theorem witness_take_up : tableNew none page ∧ ringNew none page ∧ boostNew none page ∧ ¬ tableNew (some page) (page.setWord 1 0x00A5) ∧
    ¬ ringNew (some page) (page.setWord 1 0x00A5) ∧ ¬ boostNew (some page) (page.setWord 1 0x00A5) :=
  ⟨fun _ h => (nomatch h), fun _ h => (nomatch h), fun _ h => (nomatch h), fun h => absurd (h page rfl) (by decide +kernel),
    fun h => absurd (h page rfl) (by decide +kernel), fun h => absurd (h page rfl) (by decide +kernel)⟩

/-- Fields at the edges of their ranges: N of 81 and of 80, lo equal to hi, a ring based at page 1,023 that wraps into page 0. -/
theorem witness_range_edges : deviceFails (page.setWord 5 81) 600 5 ∧ ¬ deviceFails (page.setWord 5 80) 600 5 ∧
    axisFails (page.setWord 0x49 0xDCD8) 0 0x48 ∧ (page.setWord 0x49 0xDCD8).rangeFault 600 = some 0x48 ∧
    ringRegion (page.setWord 4 1023) 0x00000 := by
  refine ⟨by unfold deviceFails; exact .inr (.inr (.inl (by decide +kernel))), ?_, by unfold axisFails; decide +kernel, by decide +kernel, by decide +kernel,
    256, by decide +kernel, by decide +kernel⟩
  unfold deviceFails
  simp only [show (5 : Nat) = 2 ↔ False by decide, show (5 : Nat) = 4 ↔ False by decide, show (5 : Nat) = 6 ↔ False by decide,
    show (5 : Nat) = 7 ↔ False by decide, show (5 : Nat) = 8 ↔ False by decide, show (5 : Nat) = 9 ↔ False by decide,
    show (5 : Nat) = 16 ↔ False by decide, false_and, false_or, or_false]
  decide +kernel

theorem witness_windows_pass : ∀ w, page.windowAtFault 600 w = false := by decide +kernel

/-! The windows and the C-port. -/

theorem witness_classes : idle.classify (addrAt 600 0xC1) = .profileWord 0xC1 ∧ idle.classify (addrAt 601 0x10) = .reportWord 0x10 ∧
    idle.classify (addrAt 602 0) = .ringWord ∧ idle.classify 0x00100 = .intent 0 ∧ idle.classify 0x00105 = .guard 0 ∧
    idle.classify 0x00500 = .unmatched := by decide +kernel

theorem witness_intent_write : CportTakes idle ∧ Lanes.both ≠ .neither ∧ idle.classify 0x00100 = .intent 0 ∧
    (panning.classify 0x00100 = .intent 0 ∧ (panning.axis 0).state = .stabilising) := by unfold CportTakes; decide +kernel

theorem witness_consumer : idle.ringEnabled = true ∧ (39 : Nat) < idle.page.ringLength ∧
    ((39 + idle.page.ringLength - 0) % idle.page.ringLength : Nat) ≤ (39 + idle.page.ringLength - 0) % idle.page.ringLength ∧
    ¬ (40 : Nat) < idle.page.ringLength ∧ swept.ringEnabled = false := by decide +kernel

/-- One lane that hands a command on, and one that hands an apply on. -/
theorem witness_single_lane :
    let s := { idle with profile := { idle.profile with shadow := (page.setWord 0 0x0500).setWord 1 0x00FF } }
    CportTakes s ∧ s.classify (addrAt 600 0) = .profileWord 0 ∧ s.classify (addrAt 600 1) = .profileWord 1 ∧
      highByte (s.profile.shadow.word 0) ≠ 0 ∧ ofBytes (highByte (s.profile.shadow.word 1)) (lowByte 0x12A5) = 0x00A5 ∧
      (after (.controllerWrite (addrAt 600 0) 0x1234 ⟨false, true⟩) s).zeroResult = .running .a ∧
      (after (.controllerWrite (addrAt 600 1) 0x12A5 ⟨false, true⟩) s).profile.applyResult = .applied := by
  unfold CportTakes; decide +kernel

theorem witness_guarded : (panning.classify 0x00105 = .guard 0 ∧ (panning.axis 0).state ≠ .off) ∧
    (idle.classify 0x00105 = .guard 0 ∧ (idle.axis 0).state = .off) := by decide +kernel

theorem witness_laneless : CportTakes idle ∧ ∃ u, exec .readReturn (withBusy idle ⟨.controllerRead none, 0x00500, 0, .neither⟩) = .next u :=
  ⟨by unfold CportTakes; decide +kernel, _, rfl⟩

/-- Twelve entries in the controller queue, and a write stretched before it. -/
def full : State :=
  let s := withQueue (clean idle) (List.replicate 12 { txn := .write 0x00500 7 .both, bind := none })
  { s with cport := { s.cport with offered := [.write 0x00501 1 .both] } }

theorem witness_closed_port : full.cportOpen = false ∧ full.cport.queue = { txn := .write 0x00500 7 .both, bind := none } ::
      List.replicate 11 { txn := .write 0x00500 7 .both, bind := none } ∧ (∀ x ∈ full.cport.queue, x.isRead = false) ∧
    full.resetHeld = false ∧ full.mport.busy = none ∧ ownWaits full = false ∧ full.classify 0x00501 = .unmatched ∧
    full.cport.offered = [.write 0x00501 1 .both] := by
  decide +kernel

/-- A read's return with a read and a write stretched behind it takes the read and leaves the write. -/
theorem witness_stretched :
    let s := withBusy idle ⟨.controllerRead none, 0x00500, 0, .both⟩
    let s := { s with cport := { s.cport with offered := [.read 0x00100 .both, .write 0x00501 1 .both] } }
    s.cportOpen = false ∧ StretchedInOrder s ∧ StretchedInOrder full ∧ (after .readReturn s).cport.queue.length = 1 ∧
      (after .readReturn s).cport.offered = [.write 0x00501 1 .both] := by unfold StretchedInOrder; decide +kernel

/-! The M-port. -/

theorem witness_head_grant :
    let s := withQueue panning [{ txn := .write 0x00100 1200 .both, bind := some 0 }]
    s.resetHeld = false ∧ s.mport.busy = none ∧ s.mport.starvation < 4 ∧ s.cport.offered = [] ∧ (s.axis 0).state ≠ .off ∧
      s.profileActive = true ∧ (s.axis 0).outAddr = some 0x00100 ∧ (s.axis 1).state = .off := by decide +kernel

theorem witness_head_grant_window : IntentCovers panning 0 0x00100 ∧ ∀ b, IntentCovers panning b 0x00100 → b = 0 :=
  ⟨⟨page.window 0, by decide +kernel⟩, by unfold IntentCovers; decide +kernel⟩

theorem witness_head_grant_no_window : ∀ a, (panning.axis a).state ≠ .off → ¬ IntentCovers panning a 0x00500 := by
  unfold IntentCovers; decide +kernel

/-- Pan's refresh waits, and a boost value, and a staged record. -/
def busyOwn : State :=
  { panning.setAxis 0 { panning.axis 0 with refreshPending := true, deadlineTimer := some 1 } with
    severity := { Severity.reset with boostHeld := some 3 }, ring := staging 2 0 11 11 }

theorem witness_own_turn : OwnTurn busyOwn ∧ (busyOwn.axis 0).refreshPending = true ∧ (busyOwn.axis 0).outAddr = some 0x00100 ∧
    busyOwn.profileActive = true ∧ OwnTurn (withQueue { busyOwn with mport := { busyOwn.mport with starvation := 4 } }
      [{ txn := .write 0x00500 7 .both, bind := none }]) := by unfold OwnTurn; decide +kernel

theorem witness_own_ranks :
    let s := { idle with ring := busyOwn.ring }
    refreshWaits { idle with severity := busyOwn.severity } = false ∧ s.severity.boostHeld = none ∧ s.isDirty .signature = true ∧
      reportWaits (clean s) = false ∧ s.ring.staged = some (Vector.replicate 12 7) ∧ s.ring.granted = (11 : Fin 12).val ∧ ringWaits (clean idle) = false ∧
      ringWaits (clean started) = false ∧ started.profile.sweep = .sweeping 0 := by decide +kernel

theorem witness_write_ready : ∀ k ∈ [MKind.controllerWrite, .refresh 3, .boost, .report, .ringWord false, .ringWord true],
    (withBusy busyOwn ⟨k, 0x3FFFF, 0x1234, ⟨true, false⟩⟩).mport.busy = some ⟨k, 0x3FFFF, 0x1234, ⟨true, false⟩⟩ ∧
    (withBusy busyOwn ⟨k, 0x3FFFF, 0x1234, ⟨true, false⟩⟩).ram.wf = true ∧ busyOwn.ring.staged ≠ none ∧ busyOwn.ring.position = 11 ∧
    idle.ring.staged = none := by decide +kernel

/-- A sweep at a position with its read in progress, over a shadow. -/
def sweeping (pos : Offset) (p : Page) : State :=
  withBusy { started with profile := { started.profile with sweep := .sweeping pos, shadow := p } } ⟨.sweepRead, addrAt 600 pos, 0, .both⟩

theorem witness_sweep : (sweeping 0 .zero).profile.sweep = .sweeping 0 ∧ (sweeping 0xFF page).profile.shadow.word 1 ≠ 0x00A5 ∧
    (sweeping 0xFF (page.setWord 1 0x00A5)).profile.shadow.word 1 = 0x00A5 ∧ (sweeping 0xFF page).profile.active = none ∧
    ((page.setWord 1 0x00A5).setWord 0xFF 0).rangeFault 600 = none ∧ (page.setWord 1 0x00A5).priorityOk = true ∧
    (page.setWord 1 0x00A5).policyOk = true ∧ (((page.setWord 1 0x00A5).setWord 5 81).setWord 0xFF 0).rangeFault 600 = some 5 := by
  decide +kernel

theorem witness_read_return :
    (withBusy panning ⟨.controllerRead (some 0), 0x00100, 0, .both⟩).cport.offered = [] ∧ panning.page.readback 0 = true ∧
    (panning.axis 0).state ≠ .off ∧ (panning.axis 0).outAddr = some 0x00100 ∧ (0x00100 : Addr) ≠ addrAt panning.reportPage 0x02 := by
  decide +kernel

/-! The conditions that every step keeps: a state with an axis at work meets them, and its step answers a next state. -/

theorem witness_step_answers : ∃ t, step { panning with pending := [.framePulse] } = .next t := ⟨_, rfl⟩

theorem witness_conditions : panning.ram.wf = true ∧ HeldIffCaused holding ∧ ThetaBounded panning ∧ OutputsInLimits panning ∧
    panning.cport.offered = [] ∧ OutputsInLimits holding ∧ (panning.axis 0).state ≠ .off ∧
    ((after .framePulse panning).axis 0).state ≠ .off := by
  unfold HeldIffCaused ThetaBounded OutputsInLimits; decide +kernel

theorem witness_queue : QueueInBounds full ∧ full.cport.queue.length = 12 := by unfold QueueInBounds; decide +kernel

theorem witness_selection : SelectionInOrder sourceless ∧ (∀ src, panning.selected = some src → src = .a) := by
  refine ⟨⟨fun src h => ?_, by decide +kernel⟩, fun src h => ?_⟩
  · have h' : (none : Option Source) = some src := h
    cases h'
  · have h' : some Source.a = some src := h
    cases h'
    rfl

theorem witness_classes_in_order : SourceClassesInOrder panning ∧ SourceClassesInOrder sourceless := by
  unfold SourceClassesInOrder; decide +kernel

theorem witness_headline : HeadlineInOrder panning ∧ panning.profile.active = some page ∧ page.priorityOk = true ∧
    HeadlineInOrder { sourceless with faults := { sourceless.faults with headline := some .sourceLost, pattern := .slowBlink } } :=
  ⟨by unfold HeadlineInOrder; decide +kernel, rfl, by decide +kernel, by unfold HeadlineInOrder; decide +kernel⟩

theorem witness_burst_in_order : BurstOnStabilising (shaking 2) ∧ CaptureInOrder (capturing 1023 40) := by
  refine ⟨witness_burst_free.2.2.2, fun h => absurd h (by decide +kernel), fun _ => ?_⟩
  decide +kernel

theorem witness_ring : RingInOrder busyOwn ∧ busyOwn.ringEnabled = true ∧
    (after .ringWordDone (withBusy busyOwn ⟨.ringWord true, 0x25A23, 7, .both⟩)).ring.producer ≠ busyOwn.ring.producer := by
  unfold RingInOrder; decide +kernel

/-- A staged record between two words, and with its last word in progress. -/
theorem witness_staging : StagingInOrder busyOwn ∧ StagingInOrder idle ∧
    StagingInOrder (withBusy { idle with ring := staging 2 0 12 11 } ⟨.ringWord true, 0x25A23, 7, .both⟩) := by
  unfold StagingInOrder; decide +kernel

theorem witness_profile_tested : panning.resetHeld = false ∧ page.rangeFault 600 = none ∧ page.priorityOk = true ∧ page.policyOk = true ∧
    panning.profile.active = some page := ⟨rfl, by decide +kernel, by decide +kernel, by decide +kernel, rfl⟩

theorem witness_dirty : DirtyInOrder panning := by unfold DirtyInOrder; decide +kernel

theorem witness_attn : started.profile.active = none ∧ panning.profile.active = some page ∧ (idle.raise .strayWrite).isPending .strayWrite = true :=
  ⟨rfl, rfl, by decide +kernel⟩

/-- The INTENT windows of the small states match one address each. -/
theorem intentCovers_panning (a : AxisId) (addr : Addr) : IntentCovers panning a addr ↔ (a = 0 ∧ addr = 0x00100) ∨ (a = 1 ∧ addr = 0x00110) := by
  have full : (0x3FFFF#18 : Addr) = BitVec.allOnes 18 := by decide
  have table : panning.table = [⟨true, .intent, 0, 0x00100, BitVec.allOnes 18⟩, ⟨true, .intent, 1, 0x00110, BitVec.allOnes 18⟩,
      ⟨true, .guard, 0, 0x00100, 0x3FFF0⟩, ⟨false, .intent, 0, 0, 0⟩, ⟨false, .intent, 0, 0, 0⟩, ⟨false, .intent, 0, 0, 0⟩,
      ⟨false, .intent, 0, 0, 0⟩, ⟨false, .intent, 0, 0, 0⟩] := by rw [← full]; decide +kernel
  simp only [IntentCovers, table, List.mem_cons, List.not_mem_nil, or_false, exists_eq_or_imp, exists_eq_left, Window.covers, Bool.true_and,
    Bool.false_and, BitVec.and_allOnes, beq_iff_eq, reduceCtorEq, false_and, and_false, or_false, true_and,
    Bool.false_eq_true]
  constructor
  · rintro (⟨h, k⟩ | ⟨h, k⟩)
    · exact .inl ⟨h.symm, BitVec.xor_eq_zero_iff.mp k⟩
    · exact .inr ⟨h.symm, BitVec.xor_eq_zero_iff.mp k⟩
  · rintro (⟨rfl, rfl⟩ | ⟨rfl, rfl⟩)
    · exact .inl ⟨rfl, rfl⟩
    · exact .inr ⟨rfl, rfl⟩

/-- Pan's setpoint write waits at the head of the controller queue. -/
def setpointWaiting : State := withQueue panning [{ txn := .write 0x00100 1200 .both, bind := some 0 }]

theorem witness_routes : RoutesInOrder setpointWaiting where
  one_axis a b addr h k := by
    have h := (intentCovers_panning a addr).mp h
    have k := (intentCovers_panning b addr).mp k
    rcases h with ⟨rfl, rfl⟩ | ⟨rfl, rfl⟩ <;> rcases k with ⟨rfl, h⟩ | ⟨rfl, h⟩ <;> first | rfl | exact absurd h (by decide)
  clear_of_regions a addr h := by
    have h := (intentCovers_panning a addr).mp h
    rcases h with ⟨rfl, rfl⟩ | ⟨rfl, rfl⟩ <;> decide +kernel
  bound_to_match e h addr data lanes a b he ha k := by
    have h' : e = { txn := .write 0x00100 1200 .both, bind := some 0 } := List.mem_singleton.mp h
    subst h'
    cases he
    cases ha
    rcases (intentCovers_panning b 0x00100).mp k with ⟨rfl, -⟩ | ⟨-, h⟩
    · rfl
    · exact absurd h (by decide)
  address_matched a addr h := by
    refine (intentCovers_panning a addr).mpr ?_
    have table : (setpointWaiting.axis 0).outAddr = some 0x00100 ∧ (setpointWaiting.axis 1).outAddr = some 0x00110 ∧
        (setpointWaiting.axis 2).outAddr = none ∧ (setpointWaiting.axis 3).outAddr = none := by decide +kernel
    obtain ⟨h0, h1, h2, h3⟩ := table
    match a with
    | 0 => rw [h0] at h; cases h; exact .inl ⟨rfl, rfl⟩
    | 1 => rw [h1] at h; cases h; exact .inr ⟨rfl, rfl⟩
    | 2 => rw [h2] at h; cases h
    | 3 => rw [h3] at h; cases h
  address_set := by decide +kernel
  refresh_active := by decide +kernel
  boost_enabled := by decide +kernel
  slot_in_ring := by decide +kernel
  reset_idle := by decide +kernel

theorem witness_setpoint_write : ∃ t w, exec .queueHeadGrant setpointWaiting = .next t ∧ setpointWaiting.mport.busy = none ∧
    t.mport.busy = some w ∧ w.isWrite = true ∧ (setpointWaiting.axis 0).state ≠ .off ∧ IntentCovers setpointWaiting 0 w.addr :=
  ⟨_, ⟨.controllerWrite, 0x00100, 1100, .both⟩, rfl, by decide +kernel, by decide +kernel, by decide +kernel, by decide +kernel,
    (intentCovers_panning 0 0x00100).mpr (.inl ⟨rfl, rfl⟩)⟩

end Sys2Proof.Tests
end

section
/-! The check byte of the inertial link (R4). A byte stands for the polynomial whose coefficients are its bits; modulo the generator
x⁸ + x² + x + 1 one shift of the running value is the multiplication by x, and the exclusive-or is the sum. -/

namespace Sys2Proof.Machine

open Polynomial

/-! ### The running value -/

theorem crcShift_eq_ite (c : Byte) : crcShift c = if c.getLsbD 7 then (c <<< 1) ^^^ 0x07 else c <<< 1 := rfl

theorem crcByte_eq_iterate (c b : Byte) : crcByte c b = crcShift^[8] (c ^^^ b) := rfl

theorem crc_append_singleton (bytes : List Byte) (b : Byte) : crc (bytes ++ [b]) = crcShift^[8] (crc bytes ^^^ b) := by
  rw [← crcByte_eq_iterate, crc, crc, List.foldl_append, List.foldl_cons, List.foldl_nil]

theorem frameCheck_append_singleton (body : List Byte) (check : Byte) (h : body.length = 8) :
    frameCheck (body ++ [check]) = true ↔ crc body = check := by
  have covered : (body ++ [check]).take 8 = body := List.take_left' h
  have last : frameByte (body ++ [check]) 9 = check := by simp [frameByte, h]
  rw [frameCheck, covered, last, beq_iff_eq]

/-! ### Bytes as polynomials over the two-element field -/

/-- The polynomial of a byte: bit `i` is the coefficient of `X ^ i`. -/
noncomputable def bytePoly (b : Byte) : (ZMod 2)[X] := ∑ i ∈ Finset.range 8, if b.getLsbD i then X ^ i else 0

/-- The polynomial of a message: its bytes' bits in order, the first byte highest. -/
noncomputable def messagePoly (bytes : List Byte) : (ZMod 2)[X] := bytes.foldl (fun p b => p * X ^ 8 + bytePoly b) 0

/-- The generator of R4. -/
noncomputable def crcGenerator : (ZMod 2)[X] := X ^ 8 + X ^ 2 + X + 1

@[simp] theorem bytePoly_zero : bytePoly 0#8 = 0 := by simp [bytePoly]

theorem bytePoly_seven : bytePoly 0x07 = X ^ 2 + X + 1 := by
  simp [bytePoly, Finset.sum_range_succ, add_comm, add_assoc]

@[simp] theorem messagePoly_nil : messagePoly [] = 0 := rfl

theorem messagePoly_append_singleton (bytes : List Byte) (b : Byte) :
    messagePoly (bytes ++ [b]) = messagePoly bytes * X ^ 8 + bytePoly b := by
  simp [messagePoly]

/-- Exclusive-or is the sum, since 1 + 1 = 0. -/
theorem bytePoly_xor (a b : Byte) : bytePoly (a ^^^ b) = bytePoly a + bytePoly b := by
  rw [bytePoly, bytePoly, bytePoly, ← Finset.sum_add_distrib]
  refine Finset.sum_congr rfl fun i _ => ?_
  cases ha : a.getLsbD i <;> cases hb : b.getLsbD i <;> simp [ha, hb, CharTwo.add_self_eq_zero]

/-- The left shift multiplies by `X`, but for the bit it loses. -/
theorem bytePoly_mul_X (c : Byte) : bytePoly c * X = bytePoly (c <<< 1) + if c.getLsbD 7 then X ^ 8 else 0 := by
  have low : bytePoly (c <<< 1) = ∑ i ∈ Finset.range 7, if c.getLsbD i then (X : (ZMod 2)[X]) ^ (i + 1) else 0 := by
    have moved (i : Nat) (hi : i ∈ Finset.range 7) : (c <<< 1).getLsbD (i + 1) = c.getLsbD i := by
      have inside : i + 1 < 8 := Nat.succ_lt_succ (Finset.mem_range.mp hi)
      simp [inside, -BitVec.getLsbD_eq_getElem]
    have filled : (c <<< 1).getLsbD 0 = false := by simp
    rw [bytePoly, Finset.sum_range_succ', filled, if_neg Bool.false_ne_true, add_zero]
    exact Finset.sum_congr rfl fun i hi => by rw [moved i hi]
  rw [low, bytePoly, Finset.sum_mul, Finset.sum_range_succ]
  simp [ite_mul, ← pow_succ]

/-! ### The residue modulo the generator -/

/-- The lost bit's `X ^ 8` is congruent to `X ^ 2 + X + 1`, the polynomial of 0x07. -/
theorem residue_X_pow_eight : AdjoinRoot.mk crcGenerator (X ^ 8) = AdjoinRoot.mk crcGenerator (bytePoly 0x07) := by
  rw [AdjoinRoot.mk_eq_mk, bytePoly_seven, CharTwo.sub_eq_add, crcGenerator]
  simp [add_assoc]

theorem residue_crcShift (c : Byte) :
    AdjoinRoot.mk crcGenerator (bytePoly (crcShift c)) = AdjoinRoot.mk crcGenerator (bytePoly c * X) := by
  rw [crcShift_eq_ite, bytePoly_mul_X, map_add]
  split
  · rw [bytePoly_xor, map_add, residue_X_pow_eight]
  · rw [map_zero, add_zero]

theorem residue_crcShift_iterate (n : Nat) (c : Byte) :
    AdjoinRoot.mk crcGenerator (bytePoly (crcShift^[n] c)) = AdjoinRoot.mk crcGenerator (bytePoly c * X ^ n) := by
  induction n with
  | zero => simp
  | succ n ih => rw [Function.iterate_succ_apply', residue_crcShift, map_mul, ih, ← map_mul, pow_succ, mul_assoc]

theorem residue_crc (bytes : List Byte) :
    AdjoinRoot.mk crcGenerator (messagePoly bytes * X ^ 8) = AdjoinRoot.mk crcGenerator (bytePoly (crc bytes)) := by
  induction bytes using List.reverseRecOn with
  | nil => simp [crc]
  | append_singleton bytes b ih =>
    symm
    calc AdjoinRoot.mk crcGenerator (bytePoly (crc (bytes ++ [b])))
        = AdjoinRoot.mk crcGenerator (bytePoly (crc bytes ^^^ b) * X ^ 8) := by
          rw [crc_append_singleton, residue_crcShift_iterate]
      _ = (AdjoinRoot.mk crcGenerator (bytePoly (crc bytes)) + AdjoinRoot.mk crcGenerator (bytePoly b)) *
            AdjoinRoot.mk crcGenerator (X ^ 8) := by rw [bytePoly_xor, map_mul, map_add]
      _ = AdjoinRoot.mk crcGenerator (messagePoly (bytes ++ [b]) * X ^ 8) := by
          rw [← ih, ← map_add, ← map_mul, messagePoly_append_singleton]

/-- The check value is the remainder of the message, moved up by a byte, by the generator. -/
theorem messagePoly_eq_mul_add_crc (bytes : List Byte) :
    ∃ q, messagePoly bytes * X ^ 8 = q * crcGenerator + bytePoly (crc bytes) := by
  obtain ⟨q, hq⟩ := AdjoinRoot.mk_eq_mk.mp (residue_crc bytes)
  exact ⟨q, by rw [mul_comm q, ← hq, sub_add_cancel]⟩

/-- Settles O9: modulo the generator a shift is the multiplication by x, so by induction on the bytes the check value has the residue of
the message. -/
theorem checkByteIsTheCyclicRedundancyCheck : Obligations.CheckByteIsTheCyclicRedundancyCheck :=
  ⟨rfl, crc_append_singleton, messagePoly_eq_mul_add_crc, frameCheck_append_singleton⟩

end Sys2Proof.Machine
end

section
/-! The leak of an angle and the integration step (R24, R25). The leak is odd in the angle, and so is the step in the rate and the angle
together, so that what is said of one sign holds of the other. -/

namespace Sys2Proof.Machine

/-! ### The leak (R24) -/

@[simp] theorem leak_zero (k : Nat) : leak k 0 = 0 := rfl

theorem leak_of_pos (k : Nat) {theta : Int} (h : 0 < theta) : leak k theta = ((max 1 (theta.natAbs / 2 ^ k) : Nat) : Int) := by
  rw [leak, if_neg h.ne', Int.sign_eq_one_of_pos h, one_mul]

theorem leak_neg (k : Nat) (theta : Int) : leak k (-theta) = -leak k theta := by
  simp only [leak, neg_eq_zero, Int.sign_neg, Int.natAbs_neg]
  split <;> simp

theorem leak_natAbs (k : Nat) {theta : Int} (h : theta ≠ 0) : (leak k theta).natAbs = max 1 (theta.natAbs / 2 ^ k) := by
  rw [leak, if_neg h, Int.natAbs_mul, Int.natAbs_sign_of_ne_zero h, one_mul, Int.natAbs_natCast]

theorem leak_sign (k : Nat) (theta : Int) : (leak k theta).sign = theta.sign := by
  obtain h | rfl | h := lt_trichotomy theta 0
  · rw [← neg_neg theta, leak_neg, leak_of_pos k (Int.neg_pos_of_neg h), Int.sign_neg, Int.sign_neg,
      Int.sign_eq_one_of_pos (by omega), Int.sign_eq_one_of_pos (by omega)]
  · rfl
  · rw [leak_of_pos k h, Int.sign_eq_one_of_pos h, Int.sign_eq_one_of_pos (by omega)]

theorem leak_natAbs_le (k : Nat) (theta : Int) : (leak k theta).natAbs ≤ theta.natAbs := by
  by_cases h : theta = 0
  · simp [h]
  · rw [leak_natAbs k h]
    exact max_le (Int.natAbs_pos.mpr h) (Nat.div_le_self _ _)

theorem one_le_leak_natAbs (k : Nat) {theta : Int} (h : theta ≠ 0) : 1 ≤ (leak k theta).natAbs := by
  rw [leak_natAbs k h]; exact le_max_left _ _

/-- With a shift other than 0 the quotient is smaller than the magnitude, so that only the least leak can be the whole angle. -/
theorem natAbs_eq_one_of_leak_natAbs_eq {k : Nat} (hk : k ≠ 0) {theta : Int} (h : theta ≠ 0)
    (he : (leak k theta).natAbs = theta.natAbs) : theta.natAbs = 1 := by
  have quotient : theta.natAbs / 2 ^ k < theta.natAbs := Nat.div_lt_self (Int.natAbs_pos.mpr h) (Nat.one_lt_two_pow hk)
  rw [leak_natAbs k h] at he
  omega

theorem leak_natAbs_of_lt (k : Nat) {theta : Int} (h : theta ≠ 0) (hlt : theta.natAbs < 2 ^ k) : (leak k theta).natAbs = 1 := by
  rw [leak_natAbs k h, Nat.div_eq_of_lt hlt, max_eq_left (Nat.zero_le 1)]

/-- A leak shift of at most 16 takes at least the angle's 65,536th part. -/
theorem div_le_leak {k : Nat} (hk : k ≤ 16) {theta : Int} (h : 0 < theta) : theta / 65536 ≤ leak k theta := by
  have quotient : theta.natAbs / 2 ^ 16 ≤ theta.natAbs / 2 ^ k :=
    Nat.div_le_div_left (Nat.pow_le_pow_right Nat.two_pos hk) (Nat.two_pow_pos k)
  rw [leak_of_pos k h]
  omega

/-! ### Steps with no rate (R27) -/

/-- The leak has the angle's sign and is not greater, so that it comes off the magnitude. -/
theorem integrateStep_zero_natAbs (k : Nat) (theta : Int) :
    (integrateStep k 0 theta).natAbs = theta.natAbs - (leak k theta).natAbs := by
  have le := leak_natAbs_le k theta
  have sign := leak_sign k theta
  rw [integrateStep, add_zero]
  obtain h | rfl | h := lt_trichotomy theta 0
  · rw [Int.sign_eq_neg_one_of_neg h] at sign
    have := Int.neg_of_sign_eq_neg_one sign
    omega
  · rfl
  · rw [Int.sign_eq_one_of_pos h] at sign
    have := Int.pos_of_sign_eq_one sign
    omega

theorem integrateStep_zero_eq_zero_or_sign (k : Nat) (theta : Int) :
    integrateStep k 0 theta = 0 ∨ (integrateStep k 0 theta).sign = theta.sign := by
  have le := leak_natAbs_le k theta
  have sign := leak_sign k theta
  rw [integrateStep, add_zero]
  obtain h | rfl | h := lt_trichotomy theta 0
  · rw [Int.sign_eq_neg_one_of_neg h] at sign ⊢
    have := Int.neg_of_sign_eq_neg_one sign
    rw [Int.sign_eq_neg_one_iff_neg]
    omega
  · exact .inl rfl
  · rw [Int.sign_eq_one_of_pos h] at sign ⊢
    have := Int.pos_of_sign_eq_one sign
    rw [Int.sign_eq_one_iff_pos]
    omega

/-- At 0 an angle stays, and elsewhere a step brings its magnitude down by at least 1. -/
theorem integrateStep_zero_natAbs_le (k : Nat) (theta : Int) : (integrateStep k 0 theta).natAbs ≤ theta.natAbs - 1 := by
  rw [integrateStep_zero_natAbs]
  by_cases h : theta = 0
  · simp [h]
  · have := one_le_leak_natAbs k h
    omega

/-- Without a rate `n` steps bring the magnitude down by at least `n`, as long as there is any. -/
theorem integrate_zero_natAbs_le (k n : Nat) (theta : Int) : (integrate k 0 n theta).natAbs ≤ theta.natAbs - n := by
  induction n generalizing theta with
  | zero => exact le_rfl
  | succ n ih =>
    calc (integrate k 0 n (integrateStep k 0 theta)).natAbs
        ≤ (integrateStep k 0 theta).natAbs - n := ih _
      _ ≤ theta.natAbs - 1 - n := Nat.sub_le_sub_right (integrateStep_zero_natAbs_le k theta) n
      _ = theta.natAbs - (n + 1) := by rw [Nat.sub_sub, Nat.add_comm]

theorem integrate_zero_eq_zero (k : Nat) {n : Nat} {theta : Int} (h : theta.natAbs ≤ n) : integrate k 0 n theta = 0 := by
  have := integrate_zero_natAbs_le k n theta
  rw [Nat.sub_eq_zero_of_le h, Nat.le_zero, Int.natAbs_eq_zero] at this
  exact this

/-- Settles O16: the leak is taken off the magnitude, which it never exceeds and lessens by at least 1 at every step, so that an angle is at
0 after as many steps as its magnitude. -/
theorem leakIsTheWholePartAndReturnsTheAngleToZero : Obligations.LeakIsTheWholePartAndReturnsTheAngleToZero := by
  refine ⟨leak_zero, fun k theta h => ⟨leak_natAbs k h, leak_sign k theta⟩, fun k theta _ _ => leak_natAbs_le k theta,
    fun k theta hlo _ h he => natAbs_eq_one_of_leak_natAbs_eq (by omega) h he, by decide, by decide, by decide, by decide,
    fun k _ _ => ⟨fun theta h => ⟨?_, integrateStep_zero_eq_zero_or_sign k theta⟩, fun theta h hlt => ?_, fun theta hlt => ?_,
      fun theta => ⟨theta.natAbs, fun m hm => integrate_zero_eq_zero k hm⟩⟩⟩
  · have fall := integrateStep_zero_natAbs_le k theta
    have pos := Int.natAbs_pos.mpr h
    omega
  · have pos := Int.natAbs_pos.mpr h
    rw [integrateStep_zero_natAbs, leak_natAbs_of_lt k h hlt, Nat.sub_add_cancel pos]
  · exact ⟨theta.natAbs, Nat.le_sub_one_of_lt hlt, integrate_zero_eq_zero k le_rfl⟩

end Sys2Proof.Machine
end

section
/-! The disturbance angles of the axes: what every operation makes of them, and the bound that every step keeps (R28). The angles of the
four axes are `s.axes.map Axis.theta`; an operation that changes other fields of axes leaves them, a START and a RELEASE may set one to 0,
and only an arrival moves them. -/

namespace Sys2Proof.Machine

/-! ### Reading angles -/

/-- Two states with the same angles have the same angle of each axis. -/
theorem State.theta_congr {s t : State} (h : t.axes.map Axis.theta = s.axes.map Axis.theta) (a : AxisId) :
    (t.axis a).theta = (s.axis a).theta := by
  have := congrArg (·.get a) h
  simpa [State.axis, Vector.get_eq_getElem] using this

/-- A record written with the angle it had leaves the angles. -/
@[simp] theorem State.setAxis_angles (s : State) (a : AxisId) (ax : Axis) (h : ax.theta = (s.axis a).theta) :
    (s.setAxis a ax).axes.map Axis.theta = s.axes.map Axis.theta := by
  rw [State.setAxis, Vector.map_set, h, State.axis, Vector.get_eq_getElem, ← Vector.getElem_map Axis.theta]
  exact Vector.set_getElem_self _

/-! ### What the operations of the Fault Monitor and the Axis Units leave -/

@[simp] theorem Axis.withClass_theta (ax : Axis) (c : AxisClass) (on : Bool) : (ax.withClass c on).theta = ax.theta := by
  cases c <;> rfl

@[simp] theorem State.setAxisFlag_angles (s : State) (c : AxisClass) (a : AxisId) (on : Bool) :
    (s.setAxisFlag c a on).axes.map Axis.theta = s.axes.map Axis.theta := by
  unfold State.setAxisFlag; split <;> simp

@[simp] theorem State.setAxisState_angles (s : State) (a : AxisId) (st : AxisState) :
    (s.setAxisState a st).axes.map Axis.theta = s.axes.map Axis.theta := by
  unfold State.setAxisState; split <;> simp

@[simp] theorem State.addCause_angles (s : State) (a : AxisId) (c : Cause) :
    (s.addCause a c).axes.map Axis.theta = s.axes.map Axis.theta := by
  simp [State.addCause]

@[simp] theorem State.markRefresh_angles (s : State) (a : AxisId) :
    (s.markRefresh a).axes.map Axis.theta = s.axes.map Axis.theta := by
  unfold State.markRefresh; split <;> simp

@[simp] theorem State.clearRefresh_angles (s : State) (a : AxisId) :
    (s.clearRefresh a).axes.map Axis.theta = s.axes.map Axis.theta := by
  simp [State.clearRefresh]

@[simp] theorem State.enterHeld_angles (s : State) (a : AxisId) (c : Cause) :
    (s.enterHeld a c).axes.map Axis.theta = s.axes.map Axis.theta := by
  simp [State.enterHeld]

@[simp] theorem State.hold_angles (s : State) (a : AxisId) (c : Cause) :
    (s.hold a c).axes.map Axis.theta = s.axes.map Axis.theta := by
  unfold State.hold; split <;> simp

@[simp] theorem State.holdRequest_angles (s : State) (fc : FaultClass) (a : AxisId) :
    (s.holdRequest fc a).axes.map Axis.theta = s.axes.map Axis.theta := by
  unfold State.holdRequest; split <;> simp

@[simp] theorem State.holdAll_angles (s : State) (fc : FaultClass) :
    (s.holdAll fc).axes.map Axis.theta = s.axes.map Axis.theta := by
  simp [State.holdAll, forAxes]

@[simp] theorem State.applyDevicePolicy_angles (s : State) (fc : FaultClass) :
    (s.applyDevicePolicy fc).axes.map Axis.theta = s.axes.map Axis.theta := by
  unfold State.applyDevicePolicy; split <;> simp

@[simp] theorem State.applyAxisPolicy_angles (s : State) (c : AxisClass) (a : AxisId) :
    (s.applyAxisPolicy c a).axes.map Axis.theta = s.axes.map Axis.theta := by
  unfold State.applyAxisPolicy; split <;> simp

@[simp] theorem State.activate_angles (s : State) (c : AxisClass) (a : AxisId) :
    (s.activate c a).axes.map Axis.theta = s.axes.map Axis.theta := by
  unfold State.activate; split <;> simp

@[simp] theorem State.judgeSources_angles (s : State) : s.judgeSources.axes.map Axis.theta = s.axes.map Axis.theta := by
  unfold State.judgeSources; simp only []; (repeat' split) <;> simp

@[simp] theorem State.silenceExpiry_angles (s : State) (a : AxisId) :
    (s.silenceExpiry a).axes.map Axis.theta = s.axes.map Axis.theta := by
  unfold State.silenceExpiry; simp only []; (repeat' split) <;> simp

@[simp] theorem State.dwellExpiry_angles (s : State) (a : AxisId) :
    (s.dwellExpiry a).axes.map Axis.theta = s.axes.map Axis.theta := by
  unfold State.dwellExpiry; split <;> simp

@[simp] theorem State.deadlineExpiry_angles (s : State) (a : AxisId) :
    (s.deadlineExpiry a).axes.map Axis.theta = s.axes.map Axis.theta := by
  unfold State.deadlineExpiry; simp only []; (repeat' split) <;> simp

@[simp] theorem State.tick_angles (s : State) : s.tick.axes.map Axis.theta = s.axes.map Axis.theta := by
  rw [State.tick, Vector.map_map]
  rfl

/-! ### What composition and selection leave -/

@[simp] theorem State.measureDwell_angles (s : State) (a : AxisId) :
    (s.measureDwell a).axes.map Axis.theta = s.axes.map Axis.theta := by
  unfold State.measureDwell; (repeat' split) <;> simp

@[simp] theorem State.compose_angles (s : State) (a : AxisId) :
    (s.compose a).axes.map Axis.theta = s.axes.map Axis.theta := by
  simp [State.compose]

@[simp] theorem State.countArrival_angles (s : State) (a : AxisId) :
    (s.countArrival a).axes.map Axis.theta = s.axes.map Axis.theta := by
  unfold State.countArrival; split <;> simp

@[simp] theorem State.arrivalAt_angles (s : State) (a : AxisId) :
    (s.arrivalAt a).axes.map Axis.theta = s.axes.map Axis.theta := by
  unfold State.arrivalAt; split <;> simp

@[simp] theorem State.startSilence_angles (s : State) (a : AxisId) :
    (s.startSilence a).axes.map Axis.theta = s.axes.map Axis.theta := by
  simp [State.startSilence]

@[simp] theorem State.recordIntent_angles (s : State) (a : AxisId) (addr : Addr) (data : Word) (lanes : Lanes) :
    (s.recordIntent a addr data lanes).axes.map Axis.theta = s.axes.map Axis.theta := by
  unfold State.recordIntent; simp only []; split <;> simp

@[simp] theorem State.select_angles (s : State) (new : Option Source) :
    (s.select new).axes.map Axis.theta = s.axes.map Axis.theta := by
  unfold State.select; simp only []; (repeat' split) <;> simp

@[simp] theorem State.reviewSelection_angles (s : State) : s.reviewSelection.axes.map Axis.theta = s.axes.map Axis.theta := by
  unfold State.reviewSelection; split <;> simp

@[simp] theorem State.staleExpiry_angles (s : State) (src : Source) :
    (s.staleExpiry src).axes.map Axis.theta = s.axes.map Axis.theta := by
  unfold State.staleExpiry; simp only []; (repeat' split) <;> simp

/-! ### What an accepted apply leaves -/

@[simp] theorem State.takeUpTable_angles (s : State) (old : Option Page) :
    (s.takeUpTable old).axes.map Axis.theta = s.axes.map Axis.theta := by
  unfold State.takeUpTable; split <;> simp [State.unsetAddresses, forAxes]

@[simp] theorem State.clearRefreshCounts_angles (s : State) :
    s.clearRefreshCounts.axes.map Axis.theta = s.axes.map Axis.theta := by
  simp [State.clearRefreshCounts, forAxes]

@[simp] theorem State.takeUpFaults_angles (s : State) (old : Option Page) :
    (s.takeUpFaults old).axes.map Axis.theta = s.axes.map Axis.theta := by
  unfold State.takeUpFaults; simp only []; split <;> simp

@[simp] theorem State.takeUpProfile_angles (s : State) : s.takeUpProfile.axes.map Axis.theta = s.axes.map Axis.theta := by
  simp [State.takeUpProfile]

theorem State.applyRequest_angles (s : State) : s.applyRequest.axes.map Axis.theta = s.axes.map Axis.theta := by
  unfold State.applyRequest; simp only []; split <;> simp

/-! ### What grants leave -/

@[simp] theorem State.grantEntry_angles (s : State) (e : QEntry) (rest : List QEntry) :
    (s.grantEntry e rest).axes.map Axis.theta = s.axes.map Axis.theta := by
  unfold State.grantEntry; simp only []; split <;> simp

@[simp] theorem State.grantRefresh_angles (s : State) : s.grantRefresh.axes.map Axis.theta = s.axes.map Axis.theta := by
  unfold State.grantRefresh; (repeat' split) <;> simp

/-! ### Commands: an angle stands or is 0 (R64, R75) -/

@[simp] theorem State.stopAxis_angles (s : State) (a : AxisId) :
    (s.stopAxis a).axes.map Axis.theta = s.axes.map Axis.theta := by
  simp [State.stopAxis]

/-- START zeroes the angle of its axis and leaves the others. -/
theorem State.startAxis_theta (s : State) (a b : AxisId) :
    ((s.startAxis a).axis b).theta = if b = a then 0 else (s.axis b).theta := by
  have angles : (s.startAxis a).axes.map Axis.theta = (s.setAxis a (startedAxis s.page a (s.axis a))).axes.map Axis.theta := by
    simp [State.startAxis]
  rw [State.theta_congr angles, State.axis_setAxis]
  split <;> rfl

/-- RELEASE zeroes the angle of its axis where the resume mode is RESET, and leaves the others. -/
theorem State.releaseAxis_theta (s : State) (a b : AxisId) :
    ((s.releaseAxis a).axis b).theta = if b = a ∧ s.page.resumeMode a = .reset then 0 else (s.axis b).theta := by
  have angles : (s.releaseAxis a).axes.map Axis.theta = (s.setAxis a (releasedAxis s.page a (s.axis a))).axes.map Axis.theta := by
    simp [State.releaseAxis]
  rw [State.theta_congr angles, State.axis_setAxis]
  by_cases h : b = a
  · subst h; simp [releasedAxis]
  · simp [h]

theorem stopCommand_angles (a : AxisId) (s : State) : (stopCommand a s).2.axes.map Axis.theta = s.axes.map Axis.theta := by
  unfold stopCommand; split <;> simp

theorem parkCommand_angles (a : AxisId) (s : State) : (parkCommand a s).2.axes.map Axis.theta = s.axes.map Axis.theta := by
  unfold parkCommand; split <;> simp

theorem sourceReturnCommand_angles (s : State) : (sourceReturnCommand s).2.axes.map Axis.theta = s.axes.map Axis.theta := by
  unfold sourceReturnCommand; (repeat' split) <;> simp

theorem startCommand_theta (a : AxisId) (s : State) (b : AxisId) :
    ((startCommand a s).2.axis b).theta = (s.axis b).theta ∨ ((startCommand a s).2.axis b).theta = 0 := by
  unfold startCommand
  (repeat' split) <;> simp only [true_or, State.startAxis_theta]
  split <;> simp

theorem releaseCommand_theta (a : AxisId) (s : State) (b : AxisId) :
    ((releaseCommand a s).2.axis b).theta = (s.axis b).theta ∨ ((releaseCommand a s).2.axis b).theta = 0 := by
  unfold releaseCommand
  (repeat' split) <;> simp only [true_or, State.releaseAxis_theta]
  split <;> simp

theorem ownerCommand_theta (code : Nat) (a : AxisId) (s : State) (b : AxisId) :
    ((ownerCommand code a s).2.axis b).theta = (s.axis b).theta ∨ ((ownerCommand code a s).2.axis b).theta = 0 := by
  unfold ownerCommand
  split
  · exact startCommand_theta a s b
  · exact .inl (State.theta_congr (stopCommand_angles a s) b)
  · exact .inl (State.theta_congr (parkCommand_angles a s) b)
  · exact releaseCommand_theta a s b
  · exact .inl (State.theta_congr (by simp) b)
  · exact .inl (State.theta_congr (by simp) b)
  · exact .inl (State.theta_congr (by simp) b)
  · exact .inl (State.theta_congr (sourceReturnCommand_angles s) b)
  · exact .inl rfl

theorem runCommand_theta (code operand : Byte) (s : State) (b : AxisId) :
    ((runCommand code operand s).2.axis b).theta = (s.axis b).theta ∨ ((runCommand code operand s).2.axis b).theta = 0 := by
  unfold runCommand
  (repeat' split)
  · exact .inl rfl
  · exact .inl rfl
  · exact .inl rfl
  · exact ownerCommand_theta _ _ s b

/-! ### One step of integration keeps the bound (R25, R28) -/

/-- A number within the bound of R28. -/
def InThetaBound (theta : Int) : Prop := -thetaBound ≤ theta ∧ theta ≤ thetaBound

theorem inThetaBound_zero : InThetaBound 0 := by unfold InThetaBound thetaBound; decide

theorem InThetaBound.neg {theta : Int} (h : InThetaBound theta) : InThetaBound (-theta) :=
  ⟨neg_le_neg h.2, neg_le.mp h.1⟩

theorem integrateStep_neg (k : Nat) (d theta : Int) : integrateStep k (-d) (-theta) = -integrateStep k d theta := by
  rw [integrateStep, integrateStep, leak_neg]; ring

/-- At the bound the leak is at least 32,767, which no rate exceeds; an angle that is not above 0 cannot come so far in one step. -/
theorem integrateStep_le {k : Nat} (hk : k ≤ 16) {d theta : Int} (hd : d ≤ 32767) (h : theta ≤ thetaBound) :
    integrateStep k d theta ≤ thetaBound := by
  unfold thetaBound at *
  rw [integrateStep]
  obtain hpos | hneg := lt_or_ge 0 theta
  · have := div_le_leak hk hpos
    omega
  · have := leak_natAbs_le k theta
    omega

theorem integrateStep_inThetaBound {k : Nat} (hk : k ≤ 16) {d theta : Int} (hlo : -32767 ≤ d) (hhi : d ≤ 32767)
    (h : InThetaBound theta) : InThetaBound (integrateStep k d theta) := by
  have mirrored := integrateStep_le hk (neg_le.mp hlo) h.neg.2
  rw [integrateStep_neg] at mirrored
  exact ⟨neg_le.mp mirrored, integrateStep_le hk hhi h.2⟩

theorem integrate_inThetaBound {k : Nat} (hk : k ≤ 16) {d : Int} (hlo : -32767 ≤ d) (hhi : d ≤ 32767) (n : Nat) {theta : Int}
    (h : InThetaBound theta) : InThetaBound (integrate k d n theta) := by
  induction n generalizing theta with
  | zero => exact h
  | succ n ih => exact ih (integrateStep_inThetaBound hk hlo hhi h)

theorem saturate_bounds (v : Int) : -32767 ≤ saturate v ∧ saturate v ≤ 32767 := by
  unfold saturate clamp; (repeat' split) <;> omega

theorem State.axisRate_bounds (s : State) (arr : Arrival) (a : AxisId) : -32767 ≤ s.axisRate arr a ∧ s.axisRate arr a ≤ 32767 :=
  saturate_bounds _

/-! ### The invariant -/

/-- The leak shifts of the enabled axes of a profile lie from 6 to 16 (R159). -/
def LeakShiftsInRange (p : Page) : Prop :=
  ∀ a, p.enabled a = true → (6 ≤ p.kCalm a ∧ p.kCalm a ≤ 16) ∧ (6 ≤ p.kRough a ∧ p.kRough a ≤ 16)

theorem thetaBounded_iff (s : State) :
    ThetaBounded s ↔ (∀ a, InThetaBound (s.axis a).theta) ∧ LeakShiftsInRange s.page := Iff.rfl

theorem LeakShiftsInRange.leakShift_le {p : Page} (h : LeakShiftsInRange p) {a : AxisId} (ha : p.enabled a = true)
    (sev : SeverityState) : p.leakShift a sev ≤ 16 := by
  obtain ⟨⟨-, calm⟩, -, rough⟩ := h a ha
  unfold Page.leakShift
  split
  · exact rough
  · exact calm

/-- Under the same profile an angle that stands or becomes 0 is still within the bound. -/
theorem ThetaBounded.of_theta_or_zero {s t : State} (h : ThetaBounded s) (hpage : t.page = s.page)
    (htheta : ∀ a, (t.axis a).theta = (s.axis a).theta ∨ (t.axis a).theta = 0) : ThetaBounded t := by
  rw [thetaBounded_iff] at h ⊢
  obtain ⟨bounds, shifts⟩ := h
  refine ⟨fun a => ?_, hpage ▸ shifts⟩
  obtain same | zero := htheta a
  · exact same ▸ bounds a
  · exact zero ▸ inThetaBound_zero

theorem ThetaBounded.of_angles {s t : State} (h : ThetaBounded s) (hpage : t.page = s.page)
    (hangles : t.axes.map Axis.theta = s.axes.map Axis.theta) : ThetaBounded t :=
  h.of_theta_or_zero hpage fun a => .inl (State.theta_congr hangles a)

/-! ### Arrivals and frames -/

/-- What one axis's act keeps is kept by the act of all four. -/
theorem forAxes_keeps {P : State → Prop} {f : AxisId → State → State} (hf : ∀ a s, P s → P (f a s)) {s : State} (h : P s) :
    P (forAxes f s) :=
  hf 3 _ (hf 2 _ (hf 1 _ (hf 0 s h)))

theorem ThetaBounded.integrateAxis {s : State} (h : ThetaBounded s) (arr : Arrival) {d : Int} (hd : -32767 ≤ d ∧ d ≤ 32767)
    (a : AxisId) : ThetaBounded (s.integrateAxis arr d a) := by
  rw [thetaBounded_iff] at h ⊢
  obtain ⟨bounds, shifts⟩ := h
  refine ⟨fun b => ?_, by simpa using shifts⟩
  unfold State.integrateAxis
  split
  next active =>
    rw [Bool.and_eq_true] at active
    rw [State.axis_setAxis]
    split
    · exact integrate_inThetaBound (shifts.leakShift_le active.1 _) hd.1 hd.2 _ (bounds a)
    · exact bounds b
  next => exact bounds b

/-- After the integration of the four axes an arrival leaves the angles. -/
theorem State.arrival_angles (s : State) (arr : Arrival) :
    (s.arrival arr).axes.map Axis.theta =
      (forAxes (fun a t => t.integrateAxis arr (s.axisRate arr a) a) s).axes.map Axis.theta := by
  simp [State.arrival, forAxes]

theorem ThetaBounded.arrival {s : State} (h : ThetaBounded s) (arr : Arrival) : ThetaBounded (s.arrival arr) := by
  have integrated : ThetaBounded (forAxes (fun a t => t.integrateAxis arr (s.axisRate arr a) a) s) :=
    forAxes_keeps (fun a t ht => ht.integrateAxis arr (s.axisRate_bounds arr a) a) h
  exact integrated.of_angles (by simp [forAxes]) (s.arrival_angles arr)

theorem ThetaBounded.acceptFrame {s : State} (h : ThetaBounded s) (line : Source) (f : List Byte) :
    ThetaBounded (s.acceptFrame line f) := by
  have recorded : ThetaBounded (s.setLink line (acceptedLink (s.link line) f)) := h.of_angles rfl rfl
  have reviewed := recorded.of_angles (t := ((s.setLink line (acceptedLink (s.link line) f)).mark .sourceState).reviewSelection)
    (by simp) (by simp)
  unfold State.acceptFrame
  by_cases live : (s.link line).state = .live
  · simp only [if_pos live]
    split
    · exact recorded.arrival _
    · exact recorded
  · simp only [if_neg live]
    split
    · exact reviewed.arrival _
    · exact reviewed

theorem ThetaBounded.setAssembly {s : State} (h : ThetaBounded s) (line : Source) (asm : Assembly) :
    ThetaBounded (s.setAssembly line asm) := h.of_angles (by simp) (by simp)

theorem ThetaBounded.checkFrame {s : State} (h : ThetaBounded s) (line : Source) : ThetaBounded (s.checkFrame line) := by
  unfold State.checkFrame
  split
  · exact h
  · unfold State.judgeFrame
    (repeat' split)
    · exact h.setAssembly line _
    · exact h.setAssembly line _
    · exact h.acceptFrame line _

/-! ### Applies (R159, R160) -/

theorem Page.all_rangeTests_of_rangeFault_eq_none {p : Page} {strap : PageNo} (h : p.rangeFault strap = none) :
    ∀ t ∈ p.rangeTests strap, t.2 = true := by
  simpa [Page.rangeFault] using h

theorem Page.axisTests_subset_rangeTests (p : Page) (strap : PageNo) (a : AxisId) : p.axisTests a ⊆ p.rangeTests strap := by
  intro t ht
  match a, ht with
  | 0, ht | 1, ht | 2, ht | 3, ht => simp [Page.rangeTests, ht]

theorem leakShiftsInRange_of_rangeFault_eq_none {p : Page} {strap : PageNo} (h : p.rangeFault strap = none) :
    LeakShiftsInRange p := by
  intro a ha
  have test : (0x40 + 0x20 * a.val + 5, !p.enabled a || (within 6 16 (p.kCalm a) && within 6 16 (p.kRough a))) ∈ p.axisTests a := by
    simp [Page.axisTests]
  have passed := Page.all_rangeTests_of_rangeFault_eq_none h _ (p.axisTests_subset_rangeTests strap a test)
  simpa [ha, within] using passed

theorem State.rangeFault_of_judgeApply_applied {s : State} (h : s.judgeApply.1 = .applied) :
    s.profile.shadow.rangeFault s.strapPage = none := by
  unfold State.judgeApply at h
  simp only [] at h
  split at h
  · cases h
  · split at h
    · cases h
    · assumption

theorem State.takeUpProfile_page (s : State) : s.takeUpProfile.page = s.profile.shadow := by
  simp [State.takeUpProfile, State.activateProfile, State.page]

/-- An accepted apply takes up a profile whose leak shifts its range tests have passed; every other leaves the profile. -/
theorem ThetaBounded.applyRequest {s : State} (h : ThetaBounded s) : ThetaBounded s.applyRequest := by
  have angles := s.applyRequest_angles
  unfold State.applyRequest at angles ⊢
  simp only [] at angles ⊢
  split
  next applied =>
    rw [if_pos applied] at angles
    rw [thetaBounded_iff] at h ⊢
    obtain ⟨bounds, -⟩ := h
    refine ⟨fun a => ?_, ?_⟩
    · rw [State.theta_congr angles]
      exact bounds a
    · rw [State.takeUpProfile_page]
      simpa using leakShiftsInRange_of_rangeFault_eq_none (State.rangeFault_of_judgeApply_applied applied)
  next refused =>
    rw [if_neg refused] at angles
    exact h.of_angles (by simp [State.page]) angles

/-! ### The C-port -/

theorem ThetaBounded.command {s : State} (h : ThetaBounded s) (w : Word) : ThetaBounded (s.command w) := by
  unfold State.command
  split
  · exact h
  · have ran : ThetaBounded (runCommand (highByte w) (lowByte w) s).2 :=
      h.of_theta_or_zero (by simp) (runCommand_theta (highByte w) (lowByte w) s)
    exact ran.of_angles (by simp [State.reportCommand, State.page]) (by simp)

theorem ThetaBounded.handOn {s : State} (h : ThetaBounded s) (w : Offset) : ThetaBounded (s.handOn w) := by
  unfold State.handOn
  (repeat' split)
  · exact h.command _
  · exact h.applyRequest
  · exact h
  · exact h

theorem ThetaBounded.enqueue {s : State} (h : ThetaBounded s) (t : BusTxn) (bind : Option AxisId) :
    ThetaBounded (s.enqueue t bind) := h.of_angles (by simp) (by simp)

theorem ThetaBounded.stray {s : State} (h : ThetaBounded s) : ThetaBounded s.stray := h.of_angles (by simp) (by simp)

theorem ThetaBounded.mergeShadow {s : State} (h : ThetaBounded s) (w : Offset) (data : Word) (lanes : Lanes) :
    ThetaBounded (s.mergeShadow w data lanes) := h.of_angles rfl (by simp)

theorem ThetaBounded.acceptClassified {s : State} (h : ThetaBounded s) (addr : Addr) (data : Word) (lanes : Lanes) :
    ThetaBounded (s.acceptClassified addr data lanes) := by
  unfold State.acceptClassified
  cases s.classify addr with
  | profileWord w => exact ((h.mergeShadow w data lanes).enqueue _ none).handOn w
  | reportWord w =>
    simp only []
    split
    · exact h.of_angles (by simp) (by simp)
    · exact h.stray
  | ringWord => exact h.stray
  | intent a => exact (h.enqueue (.write addr data lanes) (some a)).of_angles (by simp) (by simp)
  | guard a =>
    simp only []
    split
    · exact h.stray
    · exact h.enqueue _ none
  | unmatched => exact h.enqueue _ none

theorem ThetaBounded.accept {s : State} (h : ThetaBounded s) (t : BusTxn) : ThetaBounded (s.accept t) := by
  cases t with
  | read addr lanes => exact h.enqueue _ _
  | write addr data lanes =>
    simp only [State.accept]
    split
    · exact h
    · exact h.acceptClassified addr data lanes

theorem ThetaBounded.acceptOffers {s : State} (h : ThetaBounded s) (ts : List BusTxn) : ThetaBounded (s.acceptOffers ts) :=
  State.admit_keeps (fun _ t _ hs => hs.accept t) (fun _ _ hs => hs) s ts h

theorem ThetaBounded.offer {s : State} (h : ThetaBounded s) (t : BusTxn) : ThetaBounded (s.offer t) := h.acceptOffers _

theorem ThetaBounded.admitStretched {s : State} (h : ThetaBounded s) : ThetaBounded s.admitStretched := h.acceptOffers _

/-! ### The M-port -/

theorem ThetaBounded.grantHead {s : State} (h : ThetaBounded s) : ThetaBounded s.grantHead := by
  unfold State.grantHead
  (repeat' split)
  · exact h
  · exact ThetaBounded.admitStretched (h.of_angles (by simp) (by simp))
  · exact h

theorem ThetaBounded.placeSwept {s : State} (h : ThetaBounded s) (pos : Offset) (w : Word) : ThetaBounded (s.placeSwept pos w) := by
  refine h.of_angles ?_ (by simp)
  unfold State.placeSwept
  split <;> rfl

theorem ThetaBounded.endSweep {s : State} (h : ThetaBounded s) : ThetaBounded s.endSweep := by
  have swept : ThetaBounded (({ s with profile := { s.profile with sweep := .done } }.raise .sweepDone).mark .profileState) :=
    h.of_angles (by simp [State.page]) (by simp)
  unfold State.endSweep
  simp only []
  split
  · exact swept.applyRequest
  · exact swept

theorem ThetaBounded.completeSweepRead {s : State} (h : ThetaBounded s) : ThetaBounded s.completeSweepRead := by
  have freed : ThetaBounded s.freePort := h.of_angles (by simp) (by simp)
  unfold State.completeSweepRead
  simp only []
  (repeat' split)
  · exact (freed.placeSwept _ _).endSweep
  · exact freed.placeSwept _ _
  all_goals exact h

theorem ThetaBounded.completeRead {s : State} (h : ThetaBounded s) : ThetaBounded s.completeRead := by
  unfold State.completeRead
  (repeat' split)
  · exact h
  · unfold State.returnRead
    simp only []
    refine ThetaBounded.admitStretched (h.of_angles ?_ ?_) <;> split <;> simp [State.page]
  all_goals exact h

theorem ThetaBounded.completeEventRead {s : State} (h : ThetaBounded s) : ThetaBounded s.completeEventRead := by
  unfold State.completeEventRead
  (repeat' split)
  · exact h
  · exact h.completeRead
  · exact h

/-! ### Resets -/

theorem State.resetBlocks_page (s : State) (bias : PerSource Channels) (timecode : Timecode) :
    (s.resetBlocks bias timecode).page = .zero := rfl

theorem State.resetBlocks_axis (s : State) (bias : PerSource Channels) (timecode : Timecode) (a : AxisId) :
    (s.resetBlocks bias timecode).axis a = .reset := by
  simp [State.axis, State.resetBlocks, Vector.get_eq_getElem]

theorem Page.zero_enabled (a : AxisId) : Page.zero.enabled a = false := by
  simp [Page.enabled, Page.bit, Page.word, Page.zero]

theorem thetaBounded_resetBlocks (s : State) (bias : PerSource Channels) (timecode : Timecode) :
    ThetaBounded (s.resetBlocks bias timecode) := by
  rw [thetaBounded_iff]
  refine ⟨fun a => ?_, fun a ha => ?_⟩
  · rw [State.resetBlocks_axis]
    exact inThetaBound_zero
  · rw [State.resetBlocks_page, Page.zero_enabled] at ha
    cases ha

/-- Both resets are `State.resetBlocks`, with biases and a timecode of their own. -/
theorem eq_resetBlocks_of_exec_reset {s t : State} (h : exec .powerOnReset s = .next t ∨ exec .lineReset s = .next t) :
    ∃ bias timecode, t = s.resetBlocks bias timecode := by
  obtain h | h := h <;> cases h <;> exact ⟨_, _, rfl⟩

/-! ### Every command -/

theorem ThetaBounded.unless_resetHeld {s t : State} (hs : ThetaBounded s) (ht : ThetaBounded t) :
    ThetaBounded (if s.resetHeld then s else t) := by
  split
  · exact hs
  · exact ht

theorem ThetaBounded.exec {c : Instr} {s t : State} (h : ThetaBounded s) (he : exec c s = .next t) : ThetaBounded t := by
  cases c <;> cases he
  case powerOnReset | lineReset => exact thetaBounded_resetBlocks s _ _
  case resetEnd straps =>
    unfold State.endReset
    split
    · exact ThetaBounded.admitStretched (h.of_angles rfl rfl)
    · exact h
  case timeBasePulse => exact h.unless_resetHeld (h.of_angles rfl s.tick_angles)
  case goodByte line byte => exact h.unless_resetHeld ((h.checkFrame line).setAssembly line _)
  case framingError line | byteTimeout line => exact h.unless_resetHeld ((h.checkFrame line).setAssembly line .hunting)
  case inertialFrame line => exact h.unless_resetHeld (h.checkFrame line)
  case start | stop | park | release | zero | excite | tcSet | sourceReturn | unknownCommand | apply | intentWrite | ringConsumer
      | controllerWrite | controllerRead => exact h.offer _
  case queueHeadGrant => exact h.grantHead
  case sweepReadDone => exact h.completeSweepRead
  case readReturn => exact h.completeRead
  case eventPending => exact h.completeEventRead
  case statBlinkToggle => refine h.of_angles ?_ ?_ <;> (unfold State.toggleLamp; split <;> rfl)
  case staleExpiry | silenceExpiry | dwellExpiry | refreshDeadlineExpiry | settleExpiry | exitHoldExpiry | frameLostExpiry | framePulse
      | refreshGrant | boostGrant | reportWordGrant | ringWordGrant | sweepReadGrant | writeComplete | ringWordDone =>
    exact h.of_angles (by simp) (by simp)

theorem ThetaBounded.step {s t : State} (h : ThetaBounded s) (hs : step s = .next t) : ThetaBounded t := by
  unfold Machine.step at hs
  split at hs
  next => cases hs; exact h
  next c rest _ =>
    have bounded : ThetaBounded { s with pending := rest } := h
    exact bounded.exec hs

/-- Settles O50: at the bound the leak outweighs every rate, so an arrival keeps each angle within it; a command leaves an angle or zeroes
it, and an apply takes up only shifts for which that holds. -/
theorem anglesStayBounded : Obligations.AnglesStayBounded := by
  refine ⟨fun _ _ => ThetaBounded.step, fun s t h => ?_⟩
  obtain ⟨bias, timecode, rfl⟩ := eq_resetBlocks_of_exec_reset h
  exact ⟨thetaBounded_resetBlocks s bias timecode, fun a => by rw [State.resetBlocks_axis]; rfl⟩

end Sys2Proof.Machine
end

section
/-! Lanes that carry no meaning (R87): a write that enables neither lane is accepted and dropped, and the return of a read depends on
nothing of the transaction in progress but its address and its intent binding. -/

namespace Sys2Proof.Machine

/-! ### A write that enables neither lane -/

@[simp] theorem State.accept_write_neither (s : State) (addr : Addr) (data : Word) : s.accept (.write addr data .neither) = s := by
  rw [State.accept, if_pos rfl]

/-! ### The return of a read -/

/-- The return of a read looks at nothing of what holds the port, and frees it. -/
theorem State.returnRead_setBusy (s : State) (busy : Option MTxn) (bind : Option AxisId) (addr : Addr) :
    { s with mport := { s.mport with busy := busy } }.returnRead bind addr = s.returnRead bind addr := by
  have pending : { s with mport := { s.mport with busy := busy } }.eventPendingAddr = s.eventPendingAddr := rfl
  unfold State.returnRead
  simp only [pending]
  split <;> rfl

theorem exec_readReturn_of_controllerRead (s : State) {t : MTxn} {bind : Option AxisId} (h : t.kind = .controllerRead bind) :
    exec .readReturn { s with mport := { s.mport with busy := some t } } = .next (s.returnRead bind t.addr) := by
  refine congrArg Host.Outcome.next ?_
  simp only [State.completeRead, h]
  exact s.returnRead_setBusy (some t) bind t.addr

/-- Settles O38: the acceptance drops a lane-less write, and two reads of one address and binding, whatever their lanes, return to the
same state, so with the same word. -/
theorem lanelessWriteIsDropped : Obligations.LanelessWriteIsDropped := by
  refine ⟨fun s addr data takes => ?_, fun s t t' bind u u' read read' addr_eq hu hu' => ?_⟩
  · calc exec (.controllerWrite addr data .neither) s
        = .next (s.offer (.write addr data .neither)) := rfl
      _ = .next s := by rw [State.offer_of_takes takes, State.accept_write_neither]
  · have same : (.next u' : Host.Outcome State Fault Refusal) = .next u := by
      rw [← hu, ← hu', exec_readReturn_of_controllerRead s read, exec_readReturn_of_controllerRead s read', addr_eq]
    rw [Host.Outcome.next.inj same]

end Sys2Proof.Machine
end

section
/-! The acceptance of a RING_CONSUMER write (R89, R153). What a raise and a mark report is said once for each; the write is then one of the
two branches of `State.consumerWrite`. -/

namespace Sys2Proof.Machine

/-! ### What a raise and a mark report (R162, R163) -/

/-- A raise changes the report alone. -/
theorem State.raise_eq_setReport (s : State) (e : Event) : s.raise e = { s with report := (s.raise e).report } := by
  unfold State.raise
  split <;> rfl

/-- A mark, where its condition holds or not, changes the report alone. -/
theorem State.markIf_eq_setReport (s : State) (c : Bool) (w : ReportWord) :
    s.markIf c w = { s with report := (s.markIf c w).report } := by
  cases c <;> rfl

theorem reports_raise (s : State) (e : Event) : Reports s (s.raise e) [e] [] := by
  refine ⟨fun d => ?_, fun v => ?_⟩
  · simp
  · rw [State.isDirty_raise, Bool.or_comm]
    simp

theorem reports_markIf (s : State) (c : Bool) (w : ReportWord) : Reports s (s.markIf c w) [] (if c then [w] else []) := by
  cases c with
  | false => exact ⟨fun d => by simp [State.markIf], fun v => by simp [State.markIf]⟩
  | true => exact ⟨fun d => by simp [State.markIf], fun v => by simp [State.markIf, State.isDirty_mark, Bool.or_comm]⟩

/-! ### The consumer index (R153) -/

theorem State.consumerValid_iff (s : State) (q : Nat) :
    s.consumerValid q = true ↔ s.ringEnabled = true ∧ q < s.page.ringLength ∧
      (q + s.page.ringLength - s.ring.consumer) % s.page.ringLength ≤
        (s.ring.producer + s.page.ringLength - s.ring.consumer) % s.page.ringLength := by
  rw [State.consumerValid, Bool.and_eq_true, Bool.and_eq_true, decide_eq_true_iff, decide_eq_true_iff, and_assoc]
  rfl

theorem State.moveConsumer_eq_setReport (s : State) (q : Nat) :
    s.moveConsumer q = { s with ring := { s.ring with consumer := q }, report := (s.moveConsumer q).report } :=
  State.markIf_eq_setReport { s with ring := { s.ring with consumer := q } } (q != s.ring.consumer) .ringConsumer

theorem reports_moveConsumer (s : State) (q : Nat) :
    Reports s (s.moveConsumer q) [] (if q = s.ring.consumer then [] else [.ringConsumer]) := by
  have marked : Reports s (s.moveConsumer q) [] (if q != s.ring.consumer then [.ringConsumer] else []) :=
    reports_markIf { s with ring := { s.ring with consumer := q } } (q != s.ring.consumer) .ringConsumer
  by_cases same : q = s.ring.consumer <;> simpa [same] using marked

/-! ### The write (R89, R96) -/

theorem State.consumerWrite_of_valid {s : State} {data : Word} {lanes : Lanes}
    (valid : s.consumerValid (s.proposedConsumer data lanes) = true) (addr : Addr) :
    s.consumerWrite addr data lanes =
      (s.moveConsumer (s.proposedConsumer data lanes)).enqueue (.write addr data lanes) none := if_pos valid

theorem State.consumerWrite_of_not_valid {s : State} {data : Word} {lanes : Lanes}
    (invalid : ¬ s.consumerValid (s.proposedConsumer data lanes) = true) (addr : Addr) :
    s.consumerWrite addr data lanes = s.stray := if_neg invalid

/-- A valid index changes the consumer index, the controller queue and the report, and nothing else. -/
theorem State.consumerWrite_eq_setReport_of_valid {s : State} {data : Word} {lanes : Lanes}
    (valid : s.consumerValid (s.proposedConsumer data lanes) = true) (addr : Addr) :
    s.consumerWrite addr data lanes =
      { s with ring := { s.ring with consumer := s.proposedConsumer data lanes }, cport := queued s addr data lanes none,
               report := (s.consumerWrite addr data lanes).report } := by
  rw [State.consumerWrite_of_valid valid, State.moveConsumer_eq_setReport]
  rfl

/-- The acceptance of a write to the RING_CONSUMER word comes to `State.consumerWrite`. -/
theorem exec_ringConsumer_of_takes {s : State} (takes : CportTakes s) (data : Word) {lanes : Lanes} (lane : lanes ≠ .neither) :
    exec (.ringConsumer data lanes) s = .next (s.consumerWrite (addrAt s.reportPage 0x10) data lanes) := by
  calc exec (.ringConsumer data lanes) s
      = .next (s.offer (.write (addrAt s.reportPage 0x10) data lanes)) := rfl
    _ = .next (s.acceptClassified (addrAt s.reportPage 0x10) data lanes) := by
        rw [State.offer_of_takes takes, State.accept, if_neg lane]
    _ = .next (s.consumerWrite (addrAt s.reportPage 0x10) data lanes) := by
        simp only [State.acceptClassified, State.classify_report, if_true]

/-- Settles O36: the accepted write is a consumer write, whose test is R153's, so that a valid index moves q and joins the queue and any
other is a stray write. -/
theorem consumerWriteMovesForwardToTheProducer : Obligations.ConsumerWriteMovesForwardToTheProducer := by
  intro s data lanes takes lane q n old q' valid
  have accepted := exec_ringConsumer_of_takes takes data lane
  have valid_iff : s.consumerValid (s.proposedConsumer data lanes) = true ↔ valid := s.consumerValid_iff q'
  refine ⟨fun isValid => ?_, fun isInvalid => ?_⟩
  · have passes := valid_iff.mpr isValid
    refine ⟨_, accepted, State.consumerWrite_eq_setReport_of_valid passes _, ?_⟩
    rw [State.consumerWrite_of_valid passes]
    exact reports_moveConsumer s q'
  · rw [State.consumerWrite_of_not_valid (mt valid_iff.mp isInvalid)] at accepted
    exact ⟨s.stray, accepted, s.raise_eq_setReport .strayWrite, reports_raise s .strayWrite⟩

end Sys2Proof.Machine
end

section
/-! ATTN (R163). Every position of the pending set is the bit of an event, so two sets share a position exactly where they share an event. -/

namespace Sys2Proof.Machine

/-! ### Events and their positions (12.2) -/

theorem Event.bit_lt (e : Event) : e.bit < 15 := by cases e <;> decide

/-- Each of the fifteen positions is an event's. -/
theorem Event.exists_bit_eq {i : Nat} (hi : i < 15) : ∃ e : Event, e.bit = i := by
  have events_in_order : ∀ j : Fin 15, ∃ e ∈ [Event.commandDone, .applyDone, .sweepDone, .axisState, .faultRaised, .faultCleared,
      .sourceSwitch, .zeroDone, .exciteDone, .severityEnter, .severityLeave, .tcApplied, .ringRecord, .ringOverrun, .strayWrite],
      e.bit = j.val := by decide
  obtain ⟨e, -, he⟩ := events_in_order ⟨i, hi⟩
  exact ⟨e, he⟩

/-- A set of events is empty exactly when it holds no event's bit. -/
theorem events_eq_zero_iff (x : BitVec 15) : x = 0 ↔ ∀ e : Event, x.getLsbD e.bit = false := by
  refine ⟨fun h e => by simp [h], fun h => BitVec.eq_of_getLsbD_eq fun i hi => ?_⟩
  obtain ⟨e, rfl⟩ := Event.exists_bit_eq hi
  rw [h e]
  exact BitVec.getLsbD_zero.symm

/-! ### ATTN and the enable set in force -/

theorem State.attn_iff (s : State) : s.attn = true ↔ ∃ e : Event, s.isPending e = true ∧ s.enableSet.getLsbD e.bit = true := by
  rw [State.attn, bne_iff_ne, ne_eq, events_eq_zero_iff]
  simp [State.isPending]

theorem State.enableSet_of_empty {s : State} (h : s.profile.active = none) : s.enableSet = 0b111 := by
  rw [State.enableSet, h]

theorem State.enableSet_of_active {s : State} {p : Page} (h : s.profile.active = some p) : s.enableSet = p.eventEnable := by
  rw [State.enableSet, h]

theorem Event.mem_enabled_while_empty_iff (e : Event) :
    (0b111 : BitVec 15).getLsbD e.bit = true ↔ e ∈ [Event.commandDone, .applyDone, .sweepDone] := by
  cases e <;> decide

/-- The set that EVENT_ENABLE gives holds an event where the word has its bit. -/
theorem Page.eventEnable_bit (p : Page) (e : Event) : p.eventEnable.getLsbD e.bit = (p.word 0x03).getLsbD e.bit := by
  simp [Page.eventEnable, e.bit_lt]

theorem State.attn_iff_of_empty {s : State} (h : s.profile.active = none) :
    s.attn = true ↔ ∃ e ∈ [Event.commandDone, .applyDone, .sweepDone], s.isPending e = true := by
  simp only [State.attn_iff, State.enableSet_of_empty h, Event.mem_enabled_while_empty_iff, and_comm]

theorem State.attn_iff_of_active {s : State} {p : Page} (h : s.profile.active = some p) :
    s.attn = true ↔ ∃ e : Event, s.isPending e = true ∧ (p.word 0x03).getLsbD e.bit = true := by
  simp only [State.attn_iff, State.enableSet_of_active h, Page.eventEnable_bit]

/-! ### Raises and resets -/

theorem State.raise_of_isPending {s : State} {e : Event} (h : s.isPending e = true) : s.raise e = s := if_pos h

theorem State.isPending_resetBlocks (s : State) (bias : PerSource Channels) (timecode : Timecode) (e : Event) :
    (s.resetBlocks bias timecode).isPending e = false :=
  BitVec.getLsbD_zero

/-- With no event pending, ATTN is deasserted, whatever is enabled. -/
theorem State.attn_of_none_pending {s : State} (h : ∀ e, s.isPending e = false) : s.attn = false := by
  rw [← Bool.not_eq_true, State.attn_iff]
  rintro ⟨e, pending, -⟩
  simp [h e] at pending

/-- Settles O60: two sets share a position exactly where they share an event, so ATTN shows a pending event of the enable set in force; a
raise adds its own event to the pending set, and both resets empty it. -/
theorem attnFollowsPendingAndEnabled : Obligations.AttnFollowsPendingAndEnabled := by
  refine fun s => ⟨State.attn_iff_of_empty, fun _ => State.attn_iff_of_active, fun e => ⟨?_, fun d other => ?_, ?_⟩, fun t reset => ?_⟩
  · simp
  · simp [other]
  · exact State.raise_of_isPending
  · obtain ⟨bias, timecode, rfl⟩ := eq_resetBlocks_of_exec_reset reset
    have none_pending := s.isPending_resetBlocks bias timecode
    exact ⟨State.attn_of_none_pending none_pending, none_pending⟩

end Sys2Proof.Machine
end

section
/-! What the compound operations make of the axes' records, in the terms of Safety.lean: policies and the judgment of the source classes hold
axes (R132, R139), expiries act by their policies (R67, R134, R136), an arrival integrates and composes (R25, R47), and the commands of
chapter 4 and an accepted apply write records. All but the last are said for an ACTIVE profile; while the profile is EMPTY the monitor
and the policies do nothing. -/

namespace Sys2Proof.Machine

/-! ### Policies (R139) -/

/-- The cause that an axis class is. -/
def AxisClass.cause : AxisClass → Cause
  | .controllerSilent => .controllerSilent
  | .limitDwell => .limitDwell
  | .refreshLate => .refreshLate

@[simp] theorem AxisClass.cause_toClass (c : AxisClass) : c.toClass.cause = some c.cause := by cases c <;> rfl

/-- What the policy of an axis class, active for axis `a`, makes of the record of axis `b`. -/
def heldUnder (po : Policy) (c : Cause) (a b : AxisId) (ax : Axis) : Axis :=
  match po with
  | .continue | .invalid => ax
  | .holdAxis => if b = a then heldBy c ax else ax
  | .holdAll => heldBy c ax

theorem State.axis_applyAxisPolicy {s : State} (h : s.profileActive = true) (c : AxisClass) (a b : AxisId) :
    (s.applyAxisPolicy c a).axis b = heldUnder (s.page.policy c.toClass) c.cause a b (s.axis b) := by
  unfold State.applyAxisPolicy heldUnder
  cases s.page.policy c.toClass with
  | holdAll => exact State.axis_holdAll h (c := c.cause) (by simp) b
  | holdAxis =>
    simp only [State.holdRequest, AxisClass.cause_toClass]
    rw [State.axis_hold h]
    split
    next same => rw [same]
    next => rfl
  | _ => rfl

theorem State.axis_applyDevicePolicy {s : State} (h : s.profileActive = true) {fc : FaultClass} {c : Cause} (hc : fc.cause = some c)
    (b : AxisId) :
    (s.applyDevicePolicy fc).axis b = if s.page.policy fc = .holdAll then heldBy c (s.axis b) else s.axis b := by
  unfold State.applyDevicePolicy
  cases s.page.policy fc with
  | holdAll => exact State.axis_holdAll h hc b
  | _ => rfl

/-- The flags that `State.judgeSources` writes, by the selection. -/
theorem State.sourceClasses_eq (s : State) :
    s.sourceClasses = (decide (s.selected = none), decide (s.selected = some (otherSource s.page.primary))) := by
  unfold State.sourceClasses
  cases s.selected with
  | none => simp
  | some src => cases src <;> cases s.page.primary <;> rfl

theorem State.axis_setSourceFlags (s : State) (lost fallback : Bool) (b : AxisId) :
    (s.setSourceFlags lost fallback).axis b = s.axis b := State.axis_congr (by simp) b

/-- The judgment of the source classes under an ACTIVE profile holds each axis as the class that becomes active asks. -/
theorem State.axis_judgeSources {s : State} (h : s.profileActive = true) (b : AxisId) :
    s.judgeSources.axis b = sourceHolds s s.page s.selected (s.axis b) := by
  have active : ∀ l f, (s.setSourceFlags l f).profileActive = true := fun l f => by simpa using h
  have lost_holds : ∀ l f, ((s.setSourceFlags l f).applyDevicePolicy .sourceLost).axis b =
      if s.page.policy .sourceLost = .holdAll then heldBy .sourceLost (s.axis b) else s.axis b := fun l f => by
    rw [State.axis_applyDevicePolicy (active l f) (c := .sourceLost) rfl, State.axis_setSourceFlags]
    simp
  have fallback_holds : ∀ l f, ((s.setSourceFlags l f).applyDevicePolicy .sourceFallback).axis b =
      if s.page.policy .sourceFallback = .holdAll then heldBy .sourceFallback (s.axis b) else s.axis b := fun l f => by
    rw [State.axis_applyDevicePolicy (active l f) (c := .sourceFallback) rfl, State.axis_setSourceFlags]
    simp
  unfold State.judgeSources sourceHolds
  simp only [h, Bool.not_true, Bool.false_eq_true, if_false, State.sourceClasses_eq]
  by_cases lost : s.selected = none
  · cases known : s.faults.sourceLost <;> simp [lost, lost_holds, State.axis_setSourceFlags]
  · by_cases fallback : s.selected = some (otherSource s.page.primary)
    · cases known : s.faults.sourceFallback <;> simp [fallback, fallback_holds, State.axis_setSourceFlags]
    · simp [lost, fallback, State.axis_setSourceFlags]

/-- While the profile is EMPTY the source classes are not judged. -/
theorem State.judgeSources_of_empty {s : State} (h : s.profileActive = false) : s.judgeSources = s := by
  simp [State.judgeSources, h]

/-! ### Selection (R14 to R16) -/

/-- A record that the judgment of the source classes gives depends on the state's device flags alone. -/
theorem sourceHolds_congr {s t : State} (h : t.faults = s.faults) (p : Page) (new : Option Source) (ax : Axis) :
    sourceHolds t p new ax = sourceHolds s p new ax := by
  simp [sourceHolds, h]

/-- The state that a change of the selection has reached when the source classes are judged. -/
def State.switched (s : State) (new : Option Source) : State :=
  let t := (({ s with selected := new }.raise .sourceSwitch).mark .sourceState).abortCapture
  if new = none then t.abortBurst else t

theorem State.select_of_ne {s : State} {new : Option Source} (h : s.selected ≠ new) :
    s.select new = (s.switched new).judgeSources := by
  simp [State.select, State.switched, h]

theorem State.select_same (s : State) : s.select s.selected = s := by simp [State.select]

/-- What `State.switched` leaves as it was. -/
@[simp] theorem State.switched_frame (s : State) (new : Option Source) :
    (s.switched new).axes = s.axes ∧ (s.switched new).faults = s.faults ∧ (s.switched new).profile = s.profile ∧
    (s.switched new).page = s.page ∧ (s.switched new).profileActive = s.profileActive ∧ (s.switched new).selected = new ∧
    (s.switched new).links = s.links := by
  unfold State.switched
  simp only []
  split <;> simp [State.page, State.profileActive]

theorem State.axis_select {s : State} (h : s.profileActive = true) {new : Option Source} (hn : s.selected ≠ new) (b : AxisId) :
    (s.select new).axis b = sourceHolds s s.page new (s.axis b) := by
  rw [State.select_of_ne hn, State.axis_judgeSources (by simpa using h), sourceHolds_congr (s := s) (by simp)]
  have same : (s.switched new).axis b = s.axis b := State.axis_congr (by simp) b
  simp [same]

/-! ### Arrivals (R25, R47, R53) -/

/-- An axis's record after its steps of integration. -/
def integratedAxis (s : State) (arr : Arrival) (d : Int) (a : AxisId) (ax : Axis) : Axis :=
  if s.page.enabled a = true ∧ ax.state ≠ .off then
    { ax with theta := integrate (s.page.leakShift a s.severity.state) d (stepCount arr.gap) ax.theta }
  else ax

theorem State.axis_integrateAxis (arr : Arrival) (d : Int) (s : State) (a b : AxisId) :
    (s.integrateAxis arr d a).axis b = if b = a then integratedAxis s arr d a (s.axis a) else s.axis b := by
  unfold State.integrateAxis integratedAxis State.axisActive AxisState.active
  by_cases active : s.page.enabled a = true ∧ (s.axis a).state ≠ .off
  · simp [active, State.axis_setAxis]
  · have inactive : ¬ (s.page.enabled a && (s.axis a).state != .off) = true := by simpa using active
    rw [if_neg inactive, if_neg active]
    split
    next same => rw [same]
    next => rfl

/-- An axis's record after an arrival that it composes and counts at, where its state does. -/
def composedAndCounted (p : Page) (a : AxisId) (sev : SeverityState) (x : Int) (ax : Axis) : Axis :=
  if ax.state.composes then arrivalCounted (p.divider a) (composedAxis p a sev x ax) else ax

theorem State.axis_arrivalAt {s : State} (h : s.profileActive = true) (a b : AxisId) :
    (s.arrivalAt a).axis b =
      if b = a then composedAndCounted s.page a s.severity.state (s.excitation a) (s.axis a) else s.axis b := by
  unfold State.arrivalAt composedAndCounted
  by_cases active : (s.axis a).state.composes = true
  · simp only [if_pos active]
    rw [State.axis_countArrival, State.axis_compose h]
    by_cases hb : b = a
    · simp [hb]
    · simp [hb, State.axis_compose h]
  · simp only [if_neg active]
    split
    next same => rw [same]
    next => rfl

/-- The excitation reads the burst alone. -/
theorem State.excitation_congr {s t : State} (h : t.burst = s.burst) (a : AxisId) : t.excitation a = s.excitation a := by
  simp [State.excitation, h]

/-- After an arrival's integrations and compositions only the axes' records have their last word. -/
theorem State.arrival_axes (s : State) (arr : Arrival) :
    (s.arrival arr).axes =
      (forAxes (fun a t => t.arrivalAt a) (forAxes (fun a t => t.integrateAxis arr (s.axisRate arr a) a) s)).axes := by
  simp [State.arrival]

theorem State.axis_arrival {s : State} (h : s.profileActive = true) (arr : Arrival) (b : AxisId) :
    (s.arrival arr).axis b = composedAndCounted s.page b s.severity.state (s.excitation b)
      (integratedAxis s arr (s.axisRate arr b) b (s.axis b)) := by
  have integrated := State.axis_forAxes (f := fun a t => t.integrateAxis arr (s.axisRate arr a) a)
    (g := fun a ax => integratedAxis s arr (s.axisRate arr a) a ax)
    (P := fun t => t.page = s.page ∧ t.severity = s.severity)
    (fun a t ht => by simpa using ht)
    (fun a t b ht => by rw [State.axis_integrateAxis]; simp [integratedAxis, ht.1, ht.2])
    (s := s) ⟨rfl, rfl⟩ b
  have composed := State.axis_forAxes (f := fun a t => t.arrivalAt a)
    (g := fun a ax => composedAndCounted s.page a s.severity.state (s.excitation a) ax)
    (P := fun t => t.page = s.page ∧ t.severity = s.severity ∧ t.burst = s.burst ∧ t.profileActive = true)
    (fun a t ht => by simpa using ht)
    (fun a t b ⟨hp, hs, hb, ha⟩ => by rw [State.axis_arrivalAt ha, hp, hs, State.excitation_congr hb])
    (s := forAxes (fun a t => t.integrateAxis arr (s.axisRate arr a) a) s) (by simp [forAxes, h]) b
  rw [State.axis_congr (s.arrival_axes arr) b, composed, integrated]

end Sys2Proof.Machine
end

section
/-! The records of the axes after the commands of chapter 4, an intent write and an accepted apply. -/

namespace Sys2Proof.Machine

/-! ### START, STOP, RELEASE (R64, R75, R76) -/

theorem State.axis_markAxisWords (s : State) (a b : AxisId) : (s.markAxisWords a).axis b = s.axis b := State.axis_congr (by simp) b

theorem State.axis_startAxis (s : State) (a b : AxisId) :
    (s.startAxis a).axis b = if b = a then { refreshMarked (startedAxis s.page a (s.axis a)) with state := .stabilising }
      else s.axis b := by
  unfold State.startAxis
  rw [State.axis_markAxisWords, State.axis_setAxisState]
  by_cases hb : b = a
  · simp [hb, State.axis_markRefresh]
  · simp [hb, State.axis_markRefresh, State.axis_setAxis]

/-- An axis's record after its STOP. -/
def stoppedAxis (ax : Axis) : Axis :=
  { ax with state := .off, causes := .empty, refreshPending := false, deadlineTimer := none, silenceTimer := none, dwellTimer := none,
            silentActive := false, limitDwellActive := false, lateActive := false }

theorem State.axis_stopAxis {s : State} (h : s.profileActive = true) (a b : AxisId) :
    (s.stopAxis a).axis b = if b = a then stoppedAxis (s.axis a) else s.axis b := by
  unfold State.stopAxis
  simp only []
  rw [State.axis_mark, State.axis_setAxisState, State.axis_setAxisFlag (by simpa using h), State.axis_setAxisFlag (by simpa using h)]
  by_cases hb : b = a
  · subst hb
    simp [State.axis_clearRefresh, h, refreshCleared, Axis.withClass, stoppedAxis]
  · simp [hb, State.axis_setAxisFlag, State.axis_clearRefresh, h, State.axis_setAxis]

/-- The state in which a RELEASE composes. -/
def State.released (s : State) (a : AxisId) : State :=
  (s.setAxis a (releasedAxis s.page a (s.axis a))).setAxisState a .stabilising

theorem State.axis_releaseAxis {s : State} (h : s.profileActive = true) (a b : AxisId) :
    (s.releaseAxis a).axis b = if b = a then
      refreshMarked (composedAxis s.page a s.severity.state ((s.released a).excitation a)
        { releasedAxis s.page a (s.axis a) with state := .stabilising })
      else s.axis b := by
  have released : ∀ b, (s.released a).axis b = if b = a then { releasedAxis s.page a (s.axis a) with state := .stabilising }
      else s.axis b := fun b => by
    rw [State.released, State.axis_setAxisState]
    by_cases hb : b = a <;> simp [hb, State.axis_setAxis]
  have composed := State.axis_compose (s := s.released a) (by simpa [State.released] using h) a
  have page : (s.released a).page = s.page ∧ (s.released a).severity = s.severity := by simp [State.released]
  unfold State.releaseAxis
  rw [State.axis_markAxisWords, State.axis_markRefresh, ← State.released, composed, composed]
  by_cases hb : b = a
  · simp [hb, released, page]
  · simp [hb, released]

/-! ### Intent writes (R91) -/

/-- An axis's record as an intent write records it. -/
def recordedAxis (ax : Axis) (addr : Addr) (data : Word) (lanes : Lanes) : Axis :=
  { ax with intent := mergedIntent ax data lanes, intentValid := true, outAddr := some addr, silentActive := false }

/-- The state in which an intent write of a STABILISING or COASTING axis composes. -/
def State.recorded (s : State) (a : AxisId) (addr : Addr) (data : Word) (lanes : Lanes) : State :=
  ((((s.setAxis a { s.axis a with intent := mergedIntent (s.axis a) data lanes, intentValid := true, outAddr := some addr }).mark
    (.intent a)).setAxisFlag .controllerSilent a false).startSilence a).setAxisState a .stabilising

theorem State.axis_recordIntent {s : State} (h : s.profileActive = true) (a : AxisId) (addr : Addr) (data : Word) (lanes : Lanes)
    (b : AxisId) :
    (s.recordIntent a addr data lanes).axis b = if b = a then
      (if (s.axis a).state.composes then
        composedAxis s.page a s.severity.state ((s.recorded a addr data lanes).excitation a)
          { recordedAxis (s.axis a) addr data lanes with
            state := .stabilising, silenceTimer := Timer.startUnlessZero (s.page.silenceMs a) }
      else recordedAxis (s.axis a) addr data lanes)
      else s.axis b := by
  have flagged : ∀ b, (((s.setAxis a { s.axis a with
      intent := mergedIntent (s.axis a) data lanes, intentValid := true, outAddr := some addr }).mark
      (.intent a)).setAxisFlag .controllerSilent a false).axis b =
      if b = a then recordedAxis (s.axis a) addr data lanes else s.axis b := fun b => by
    rw [State.axis_setAxisFlag (by simpa using h)]
    by_cases hb : b = a <;> simp [hb, State.axis_setAxis, Axis.withClass, recordedAxis]
  have composed := State.axis_compose (s := s.recorded a addr data lanes) (by simpa [State.recorded] using h) a b
  unfold State.recordIntent
  simp only []
  by_cases active : (s.axis a).state.composes = true
  · rw [if_pos active, ← State.recorded, composed]
    by_cases hb : b = a
    · simp [hb, active, State.recorded, State.axis_setAxisState, State.startSilence, flagged]
    · simp [hb, State.recorded, State.axis_setAxisState, State.startSilence, flagged, State.axis_setAxis]
  · simp [active, flagged]

/-! ### An accepted apply (R160) -/

/-- An axis's record before the source classes are judged at an accepted apply. -/
def retabledAxis (old : Option Page) (p : Page) (ax : Axis) : Axis :=
  if tableChanged old p then { ax with refreshCount := 0, intentValid := false, outAddr := none } else { ax with refreshCount := 0 }

theorem State.axis_unsetAddresses (s : State) (b : AxisId) :
    s.unsetAddresses.axis b = { s.axis b with intentValid := false, outAddr := none } :=
  State.axis_forAxes (g := fun _ ax => { ax with intentValid := false, outAddr := none }) (P := fun _ => True)
    (fun _ _ _ => trivial) (fun a t b _ => State.axis_setAxis t a b _) trivial b

theorem State.axis_clearRefreshCounts (s : State) (b : AxisId) :
    s.clearRefreshCounts.axis b = { s.axis b with refreshCount := 0 } :=
  State.axis_forAxes (g := fun _ ax => { ax with refreshCount := 0 }) (P := fun _ => True)
    (fun _ _ _ => trivial) (fun a t b _ => State.axis_setAxis t a b _) trivial b

/-- The state that an accepted apply has reached when the selection is reviewed. -/
def State.retabled (s : State) : State :=
  ((((s.activateProfile).takeUpTable s.profile.active).clearRefreshCounts.takeUpBoost s.profile.active).takeUpRate).takeUpRing
    s.profile.active

theorem State.takeUpProfile_eq (s : State) : s.takeUpProfile = s.retabled.reviewSelection.takeUpFaults s.profile.active := rfl

theorem State.activateProfile_profile (s : State) :
    s.activateProfile.profile = { s.profile with active := some s.profile.shadow } := by
  simp [State.activateProfile]

theorem State.activateProfile_page (s : State) : s.activateProfile.page = s.profile.shadow := by
  simp [State.page, State.activateProfile_profile]

theorem State.retabled_profile (s : State) : s.retabled.profile = { s.profile with active := some s.profile.shadow } := by
  simp [State.retabled, State.activateProfile_profile]

theorem State.retabled_page (s : State) : s.retabled.page = s.profile.shadow := by
  simp [State.page, State.retabled_profile]

theorem State.retabled_active (s : State) : s.retabled.profileActive = true := by
  simp [State.profileActive, State.retabled_profile]

/-- What `State.retabled` leaves as it was. -/
@[simp] theorem State.retabled_frame (s : State) :
    s.retabled.pending = s.pending ∧ s.retabled.resetHeld = s.resetHeld ∧ s.retabled.strapPage = s.strapPage ∧
    s.retabled.links = s.links ∧ s.retabled.selected = s.selected ∧ s.retabled.bias = s.bias ∧ s.retabled.capture = s.capture ∧
    s.retabled.zeroResult = s.zeroResult ∧ s.retabled.burst = s.burst ∧ s.retabled.exciteResult = s.exciteResult ∧
    s.retabled.faults = s.faults ∧ s.retabled.ram = s.ram := by
  simp [State.retabled]

theorem State.axis_retabled (s : State) (b : AxisId) :
    s.retabled.axis b = retabledAxis s.profile.active s.profile.shadow (s.axis b) := by
  have counts : s.retabled.axis b = ((s.activateProfile).takeUpTable s.profile.active).clearRefreshCounts.axis b :=
    State.axis_congr (by simp [State.retabled]) b
  have activated : s.activateProfile.axis b = s.axis b := State.axis_congr (by simp) b
  have rebind : ∀ t : State, t.rebindQueue.axis b = t.axis b := fun t => State.axis_congr (by simp) b
  rw [counts, State.axis_clearRefreshCounts, State.takeUpTable, State.activateProfile_page, retabledAxis]
  split <;> simp [State.axis_unsetAddresses, rebind, activated]

end Sys2Proof.Machine
end

section
/-! The Fault Monitor's flags, headline and STAT pattern (R131, R141, R142). An operation on axes may set and clear their classes' flags; what
every such operation keeps is gathered in `AxisRun`, shown once for each operation: the profile, the selection and the device classes' flags
stand, while the profile is EMPTY no flag moves, the headline and the pattern follow the flags, and the burst follows its axis's state. -/

namespace Sys2Proof.Machine

/-! ### What the classes depend on -/

/-- The three device classes' flags. -/
def State.deviceFlags (s : State) : Bool × Bool × Bool := (s.faults.sourceLost, s.faults.sourceFallback, s.faults.frameLost)

theorem sameDeviceFlags_iff (s t : State) : SameDeviceFlags s t ↔ t.deviceFlags = s.deviceFlags := by
  simp [SameDeviceFlags, State.deviceFlags]

theorem State.deviceFlags_congr {s t : State} (h : t.faults = s.faults) : t.deviceFlags = s.deviceFlags := by
  simp [State.deviceFlags, h]

/-- The flags of an axis's three classes. -/
def Axis.flags (ax : Axis) : Bool × Bool × Bool := (ax.silentActive, ax.limitDwellActive, ax.lateActive)

theorem State.classActive_congr {s t : State} (device : t.deviceFlags = s.deviceFlags) (flags : ∀ a, (t.axis a).flags = (s.axis a).flags) :
    t.classActive = s.classActive := by
  simp only [State.deviceFlags, Prod.mk.injEq] at device
  simp only [Axis.flags, Prod.mk.injEq] at flags
  funext c
  cases c <;> simp [State.classActive, device, flags]

theorem State.firstActive_congr {s t : State} (profile : t.profile.active = s.profile.active) (classes : t.classActive = s.classActive) :
    t.firstActive = s.firstActive := by
  simp [State.firstActive, profile, classes]

theorem State.patternFor_congr {s t : State} (profile : t.profile.active = s.profile.active)
    (headline : t.faults.headline = s.faults.headline) : t.patternFor = s.patternFor := by
  simp [State.patternFor, profile, headline]

theorem State.profileActive_congr {s t : State} (profile : t.profile.active = s.profile.active) : t.profileActive = s.profileActive := by
  simp [State.profileActive, profile]

theorem State.page_congr {s t : State} (profile : t.profile.active = s.profile.active) : t.page = s.page := by
  simp [State.page, profile]

/-! ### Judging the headline and the pattern -/

theorem State.judgeStat_faults (s : State) :
    s.judgeStat.faults.headline = s.faults.headline ∧ s.judgeStat.deviceFlags = s.deviceFlags ∧
      s.judgeStat.faults.pattern = s.patternFor := by
  unfold State.judgeStat
  split
  next same => exact ⟨rfl, rfl, same.symm⟩
  next => exact ⟨rfl, rfl, rfl⟩

theorem State.judgeHeadline_deviceFlags (s : State) : s.judgeHeadline.deviceFlags = s.deviceFlags := by
  unfold State.judgeHeadline
  split
  · rfl
  · rw [(State.judgeStat_faults _).2.1]
    simp [State.deviceFlags]

theorem State.classActive_judgeHeadline (s : State) : s.judgeHeadline.classActive = s.classActive :=
  State.classActive_congr s.judgeHeadline_deviceFlags fun a => by rw [State.axis_congr (s := s) (by simp) a]

/-- Where the pattern is that of the headline as it stands, judging the headline leaves both in order. -/
theorem headlineInOrder_judgeHeadline {s : State} (h : s.faults.pattern = s.patternFor) : HeadlineInOrder s.judgeHeadline := by
  have first : s.judgeHeadline.firstActive = s.firstActive := State.firstActive_congr (by simp) s.classActive_judgeHeadline
  unfold HeadlineInOrder
  rw [first]
  unfold State.judgeHeadline
  split
  next same => exact ⟨same.symm, h⟩
  next =>
    obtain ⟨headline, -, pattern⟩ := State.judgeStat_faults
      ({ s with faults := { s.faults with headline := s.firstActive } }.mark .headline)
    refine ⟨by simpa using headline, ?_⟩
    rw [pattern]
    exact (State.patternFor_congr (by simp) headline).symm

theorem State.judgeHeadline_headline (s : State) : s.judgeHeadline.faults.headline = s.firstActive := by
  unfold State.judgeHeadline
  split
  next same => exact same.symm
  next => rw [(State.judgeStat_faults _).1]; simp

/-- Judging both, as at an accepted apply, leaves both in order, whatever they were. -/
theorem headlineInOrder_judged (s : State) : HeadlineInOrder s.judgeHeadline.judgeStat := by
  obtain ⟨headline, device, pattern⟩ := s.judgeHeadline.judgeStat_faults
  have classes : s.judgeHeadline.judgeStat.classActive = s.judgeHeadline.classActive :=
    State.classActive_congr device fun a => by rw [State.axis_congr (s := s.judgeHeadline) (by simp) a]
  refine ⟨?_, ?_⟩
  · rw [headline, State.judgeHeadline_headline]
    exact (State.firstActive_congr (by simp) (classes.trans s.classActive_judgeHeadline)).symm
  · rw [pattern]
    exact (State.patternFor_congr (by simp) headline).symm

theorem HeadlineInOrder.congr {s t : State} (h : HeadlineInOrder s) (profile : t.profile.active = s.profile.active)
    (faults : t.faults = s.faults) (flags : ∀ a, (t.axis a).flags = (s.axis a).flags) : HeadlineInOrder t := by
  obtain ⟨headline, pattern⟩ := h
  refine ⟨?_, ?_⟩
  · rw [faults, headline, State.firstActive_congr profile (State.classActive_congr (State.deviceFlags_congr faults) flags)]
  · rw [faults, pattern, State.patternFor_congr profile (by rw [faults])]

/-! ### The burst and its axis -/

theorem BurstOnStabilising.congr {s t : State} (h : BurstOnStabilising s) (burst : t.burst = s.burst)
    (state : ∀ a, (t.axis a).state = (s.axis a).state) (selected : t.selected = s.selected) : BurstOnStabilising t := by
  simpa [BurstOnStabilising, burst, state, selected] using h

theorem burstOnStabilising_of_idle {s : State} (state : s.burst.state = .idle) (x : s.burst.x = 0) : BurstOnStabilising s := by
  simp [BurstOnStabilising, state, x]

@[simp] theorem State.endBurst_burst (s : State) (b : Burst) (r : ExciteResult) : (s.endBurst b r).burst = b.ended := by
  simp [State.endBurst]

@[simp] theorem Burst.ended_state (b : Burst) : b.ended.state = .idle := rfl
@[simp] theorem Burst.ended_x (b : Burst) : b.ended.x = 0 := rfl

theorem RunState.not_running_iff (r : RunState) : r ≠ .running ↔ r = .idle := by cases r <;> simp

/-- A change of an axis's state aborts a burst on it, so that a burst goes on only on an axis whose state stands. -/
theorem BurstOnStabilising.setAxisState {s : State} (h : BurstOnStabilising s) (a : AxisId) (st : AxisState) :
    BurstOnStabilising (s.setAxisState a st) := by
  unfold State.setAxisState
  split
  next => exact h
  next =>
    unfold State.abortBurstOn
    split
    next => exact burstOnStabilising_of_idle (by simp) (by simp)
    next elsewhere =>
      have other : s.burst.state = .running → s.burst.axis ≠ a := by simpa using elsewhere
      refine ⟨fun running => ?_, fun idle => ?_⟩
      · have running' : s.burst.state = .running := by simpa using running
        simpa [State.axis_setAxis, other running'] using h.1 running'
      · simpa using h.2 (by simpa using idle)

/-! ### Runs of operations on axes -/

/-- What every operation on axes leaves in order. -/
structure AxisRun (s t : State) : Prop where
  profile : t.profile.active = s.profile.active
  selected : t.selected = s.selected
  device : t.deviceFlags = s.deviceFlags
  flags_of_empty : s.profileActive = false → ∀ a, (t.axis a).flags = (s.axis a).flags
  headline : HeadlineInOrder s → HeadlineInOrder t
  burst : BurstOnStabilising s → BurstOnStabilising t

theorem AxisRun.refl (s : State) : AxisRun s s := ⟨rfl, rfl, rfl, fun _ _ => rfl, id, id⟩

theorem AxisRun.comp {s t u : State} (k : AxisRun t u) (h : AxisRun s t) : AxisRun s u where
  profile := k.profile.trans h.profile
  selected := k.selected.trans h.selected
  device := k.device.trans h.device
  flags_of_empty empty a :=
    (k.flags_of_empty ((State.profileActive_congr h.profile).trans empty) a).trans (h.flags_of_empty empty a)
  headline := k.headline ∘ h.headline
  burst := k.burst ∘ h.burst

/-- An operation that leaves the flags, the states and the burst as they were. -/
theorem AxisRun.of_eq {s t : State} (profile : t.profile.active = s.profile.active) (selected : t.selected = s.selected)
    (faults : t.faults = s.faults) (burst : t.burst = s.burst)
    (axes : ∀ a, (t.axis a).state = (s.axis a).state ∧ (t.axis a).flags = (s.axis a).flags) : AxisRun s t where
  profile := profile
  selected := selected
  device := State.deviceFlags_congr faults
  flags_of_empty _ a := (axes a).2
  headline h := h.congr profile faults fun a => (axes a).2
  burst h := h.congr burst (fun a => (axes a).1) selected

/-- An operation that leaves the axes and the faults as they were. -/
theorem AxisRun.of_axes_eq {s t : State} (profile : t.profile.active = s.profile.active) (selected : t.selected = s.selected)
    (faults : t.faults = s.faults) (burst : t.burst = s.burst) (axes : t.axes = s.axes) : AxisRun s t :=
  .of_eq profile selected faults burst fun a => by simp [State.axis_congr axes a]

theorem axisRun_setAxis (s : State) (a : AxisId) (ax : Axis) (state : ax.state = (s.axis a).state) (flags : ax.flags = (s.axis a).flags) :
    AxisRun s (s.setAxis a ax) :=
  .of_eq (by simp) (by simp) (by simp) (by simp) fun b => by
    rw [State.axis_setAxis]
    split
    next same => subst same; exact ⟨state, flags⟩
    next => exact ⟨rfl, rfl⟩

theorem axisRun_mark (s : State) (w : ReportWord) : AxisRun s (s.mark w) :=
  .of_axes_eq (by simp) (by simp) (by simp) (by simp) (by simp)

theorem axisRun_markIf (s : State) (c : Bool) (w : ReportWord) : AxisRun s (s.markIf c w) :=
  .of_axes_eq (by simp) (by simp) (by simp) (by simp) (by simp)

theorem axisRun_setAxisState (s : State) (a : AxisId) (st : AxisState) : AxisRun s (s.setAxisState a st) where
  profile := by simp
  selected := by simp
  device := State.deviceFlags_congr (by simp)
  flags_of_empty _ b := by rw [State.axis_setAxisState]; split <;> simp_all [Axis.flags]
  headline h := h.congr (by simp) (by simp) fun b => by rw [State.axis_setAxisState]; split <;> simp_all [Axis.flags]
  burst h := h.setAxisState a st

@[simp] theorem Axis.withClass_state (ax : Axis) (c : AxisClass) (on : Bool) : (ax.withClass c on).state = ax.state := by cases c <;> rfl

theorem axisRun_setAxisFlag (s : State) (c : AxisClass) (a : AxisId) (on : Bool) : AxisRun s (s.setAxisFlag c a on) := by
  by_cases active : s.profileActive = true
  · have axes := State.axis_setAxisFlag active c a on
    refine ⟨by simp, by simp, ?_, by simp [active], fun h => ?_, fun h => h.congr (by simp) (fun b => ?_) (by simp)⟩
    · unfold State.setAxisFlag
      split
      · rfl
      · rw [State.judgeHeadline_deviceFlags]
        exact State.deviceFlags_congr (by simp)
    · unfold State.setAxisFlag
      split
      · exact h
      · refine headlineInOrder_judgeHeadline ?_
        rw [State.patternFor_congr (s := s) (by simp) (by simp)]
        simpa using h.2
    · rw [axes]
      split <;> simp_all
  · have same : s.setAxisFlag c a on = s := by simp [State.setAxisFlag, active]
    rw [same]; exact .refl s

theorem axisRun_addCause (s : State) (a : AxisId) (c : Cause) : AxisRun s (s.addCause a c) :=
  .comp (axisRun_markIf _ _ _) (axisRun_setAxis s a _ rfl rfl)

theorem axisRun_markRefresh (s : State) (a : AxisId) : AxisRun s (s.markRefresh a) := by
  unfold State.markRefresh
  split
  · exact .refl s
  · exact axisRun_setAxis s a _ rfl rfl

theorem axisRun_clearRefresh (s : State) (a : AxisId) : AxisRun s (s.clearRefresh a) :=
  .comp (axisRun_setAxisFlag _ _ _ _) (axisRun_setAxis s a _ rfl rfl)

theorem axisRun_enterHeld (s : State) (a : AxisId) (c : Cause) : AxisRun s (s.enterHeld a c) :=
  .comp (axisRun_setAxisState _ _ _) <| .comp (axisRun_setAxisFlag _ _ _ _) <| .comp (axisRun_setAxis _ _ _ rfl rfl) <|
    .comp (axisRun_clearRefresh _ _) (axisRun_addCause s a c)

theorem axisRun_hold (s : State) (a : AxisId) (c : Cause) : AxisRun s (s.hold a c) := by
  unfold State.hold
  split
  · exact .refl s
  · exact axisRun_enterHeld s a c
  · exact axisRun_enterHeld s a c
  · exact axisRun_addCause s a c

theorem axisRun_holdRequest (s : State) (fc : FaultClass) (a : AxisId) : AxisRun s (s.holdRequest fc a) := by
  unfold State.holdRequest
  split
  · exact .refl s
  · exact axisRun_hold s a _

/-- A run on each axis in turn is a run. -/
theorem axisRun_forAxes {f : AxisId → State → State} (hf : ∀ a s, AxisRun s (f a s)) (s : State) : AxisRun s (forAxes f s) :=
  forAxes_keeps (P := AxisRun s) (fun a t ht => (hf a t).comp ht) (.refl s)

theorem axisRun_holdAll (s : State) (fc : FaultClass) : AxisRun s (s.holdAll fc) :=
  axisRun_forAxes (fun a t => axisRun_holdRequest t fc a) s

theorem axisRun_applyDevicePolicy (s : State) (fc : FaultClass) : AxisRun s (s.applyDevicePolicy fc) := by
  unfold State.applyDevicePolicy
  split
  · exact axisRun_holdAll s fc
  all_goals exact .refl s

theorem axisRun_applyAxisPolicy (s : State) (c : AxisClass) (a : AxisId) : AxisRun s (s.applyAxisPolicy c a) := by
  unfold State.applyAxisPolicy
  split
  · exact axisRun_holdRequest s _ a
  · exact axisRun_holdAll s _
  all_goals exact .refl s

theorem axisRun_activate (s : State) (c : AxisClass) (a : AxisId) : AxisRun s (s.activate c a) := by
  unfold State.activate
  split
  · exact .refl s
  · exact .comp (axisRun_applyAxisPolicy _ c a) (axisRun_setAxisFlag s c a true)

theorem axisRun_silenceExpiry (s : State) (a : AxisId) : AxisRun s (s.silenceExpiry a) := by
  have stopped := axisRun_setAxis s a { s.axis a with silenceTimer := none } rfl rfl
  have flagged := (axisRun_setAxisFlag _ .controllerSilent a true).comp stopped
  unfold State.silenceExpiry
  simp only []
  (repeat' split)
  · exact .refl s
  · exact stopped
  · exact (axisRun_setAxisState _ _ _).comp flagged
  · exact flagged
  all_goals exact (axisRun_applyAxisPolicy _ _ _).comp flagged

theorem axisRun_dwellExpiry (s : State) (a : AxisId) : AxisRun s (s.dwellExpiry a) := by
  unfold State.dwellExpiry
  split
  · exact .refl s
  · exact .comp (axisRun_activate _ _ _) (axisRun_setAxis s a _ rfl rfl)

theorem axisRun_deadlineExpiry (s : State) (a : AxisId) : AxisRun s (s.deadlineExpiry a) := by
  have stopped := axisRun_setAxis s a { s.axis a with deadlineTimer := none } rfl rfl
  unfold State.deadlineExpiry
  simp only []
  (repeat' split)
  · exact .refl s
  · exact (axisRun_activate _ _ _).comp stopped
  · exact stopped

theorem axisRun_measureDwell (s : State) (a : AxisId) : AxisRun s (s.measureDwell a) := by
  unfold State.measureDwell
  (repeat' split)
  · exact axisRun_setAxis s a _ rfl rfl
  · exact .refl s
  · exact .comp (axisRun_setAxisFlag _ _ _ _) (axisRun_setAxis s a _ rfl rfl)

theorem axisRun_compose (s : State) (a : AxisId) : AxisRun s (s.compose a) :=
  .comp (axisRun_measureDwell _ a) <| .comp (axisRun_markIf _ _ _) <| .comp (axisRun_mark _ _) <| .comp (axisRun_mark _ _) <|
    axisRun_setAxis s a _ rfl rfl

theorem axisRun_countArrival (s : State) (a : AxisId) : AxisRun s (s.countArrival a) := by
  unfold State.countArrival
  split
  · exact .comp (axisRun_markRefresh _ a) (axisRun_setAxis s a _ rfl rfl)
  · exact axisRun_setAxis s a _ rfl rfl

theorem axisRun_arrivalAt (s : State) (a : AxisId) : AxisRun s (s.arrivalAt a) := by
  unfold State.arrivalAt
  split
  · exact (axisRun_countArrival _ a).comp (axisRun_compose s a)
  · exact .refl s

theorem axisRun_integrateAxis (arr : Arrival) (d : Int) (s : State) (a : AxisId) : AxisRun s (s.integrateAxis arr d a) := by
  unfold State.integrateAxis
  split
  · exact axisRun_setAxis s a _ rfl rfl
  · exact .refl s

theorem axisRun_startSilence (s : State) (a : AxisId) : AxisRun s (s.startSilence a) := axisRun_setAxis s a _ rfl rfl

theorem axisRun_recordIntent (s : State) (a : AxisId) (addr : Addr) (data : Word) (lanes : Lanes) :
    AxisRun s (s.recordIntent a addr data lanes) := by
  have recorded := (axisRun_setAxisFlag _ .controllerSilent a false).comp <| (axisRun_mark _ (.intent a)).comp <|
    axisRun_setAxis s a { s.axis a with
      intent := mergedIntent (s.axis a) data lanes, intentValid := true, outAddr := some addr } rfl rfl
  unfold State.recordIntent
  simp only []
  split
  · exact (axisRun_compose _ a).comp <| (axisRun_setAxisState _ a .stabilising).comp <| (axisRun_startSilence _ a).comp recorded
  · exact recorded

theorem axisRun_markAxisWords (s : State) (a : AxisId) : AxisRun s (s.markAxisWords a) :=
  .of_axes_eq (by simp) (by simp) (by simp) (by simp) (by simp)

theorem axisRun_startAxis (s : State) (a : AxisId) : AxisRun s (s.startAxis a) :=
  .comp (axisRun_markAxisWords _ a) <| .comp (axisRun_setAxisState _ _ _) <| .comp (axisRun_markRefresh _ a) <|
    axisRun_setAxis s a _ rfl rfl

theorem axisRun_stopAxis (s : State) (a : AxisId) : AxisRun s (s.stopAxis a) :=
  .comp (axisRun_mark _ _) <| .comp (axisRun_setAxisState _ _ _) <| .comp (axisRun_setAxisFlag _ _ _ _) <|
    .comp (axisRun_setAxisFlag _ _ _ _) <| .comp (axisRun_clearRefresh _ a) <| axisRun_setAxis s a _ rfl rfl

theorem axisRun_releaseAxis (s : State) (a : AxisId) : AxisRun s (s.releaseAxis a) :=
  .comp (axisRun_markAxisWords _ a) <| .comp (axisRun_markRefresh _ a) <| .comp (axisRun_compose _ a) <|
    .comp (axisRun_setAxisState _ _ _) <| axisRun_setAxis s a _ rfl rfl

/-! ### The device classes (R132, R137) -/

theorem State.reportFlag_deviceFlags (s : State) (old new : Bool) : (s.reportFlag old new).deviceFlags = s.deviceFlags := by
  unfold State.reportFlag
  split
  · rfl
  · exact State.deviceFlags_congr (by simp)

theorem State.setSourceFlags_deviceFlags (s : State) (lost fallback : Bool) :
    (s.setSourceFlags lost fallback).deviceFlags = (lost, fallback, s.faults.frameLost) := by
  simp only [State.setSourceFlags, State.judgeHeadline_deviceFlags, State.reportFlag_deviceFlags]
  rfl

theorem HeadlineInOrder.setSourceFlags {s : State} (h : HeadlineInOrder s) (lost fallback : Bool) :
    HeadlineInOrder (s.setSourceFlags lost fallback) := by
  refine headlineInOrder_judgeHeadline ?_
  rw [State.patternFor_congr (s := s) (by simp) (by simp)]
  simpa using h.2

/-- After the judgment of the source classes under an ACTIVE profile their flags are those of the selection. -/
theorem State.judgeSources_deviceFlags {s : State} (h : s.profileActive = true) :
    s.judgeSources.deviceFlags =
      (decide (s.selected = none), decide (s.selected = some (otherSource s.page.primary)), s.faults.frameLost) := by
  unfold State.judgeSources
  simp only [h, Bool.not_true, Bool.false_eq_true, if_false, State.sourceClasses_eq]
  (repeat' split) <;> simp only [(axisRun_applyDevicePolicy _ _).device, State.setSourceFlags_deviceFlags]

theorem HeadlineInOrder.judgeSources {s : State} (h : HeadlineInOrder s) : HeadlineInOrder s.judgeSources := by
  unfold State.judgeSources
  simp only []
  (repeat' split)
  · exact h
  · exact (axisRun_applyDevicePolicy _ _).headline ((axisRun_applyDevicePolicy _ _).headline (h.setSourceFlags _ _))
  · exact (axisRun_applyDevicePolicy _ _).headline (h.setSourceFlags _ _)
  · exact (axisRun_applyDevicePolicy _ _).headline (h.setSourceFlags _ _)
  · exact h.setSourceFlags _ _

theorem BurstOnStabilising.judgeSources {s : State} (h : BurstOnStabilising s) : BurstOnStabilising s.judgeSources := by
  have flagged : ∀ l f, BurstOnStabilising (s.setSourceFlags l f) := fun l f =>
    h.congr (by simp) (fun a => by rw [State.axis_setSourceFlags]) (by simp)
  unfold State.judgeSources
  simp only []
  (repeat' split)
  · exact h
  · exact (axisRun_applyDevicePolicy _ _).burst ((axisRun_applyDevicePolicy _ _).burst (flagged _ _))
  · exact (axisRun_applyDevicePolicy _ _).burst (flagged _ _)
  · exact (axisRun_applyDevicePolicy _ _).burst (flagged _ _)
  · exact flagged _ _

theorem State.setFrameLost_deviceFlags (s : State) (on : Bool) :
    (s.setFrameLost on).deviceFlags =
      (s.faults.sourceLost, s.faults.sourceFallback, if s.profileActive then on else s.faults.frameLost) := by
  unfold State.setFrameLost
  split
  next idle =>
    cases active : s.profileActive <;> simp_all [State.deviceFlags]
  next acts =>
    rw [State.judgeHeadline_deviceFlags, State.reportFlag_deviceFlags]
    cases active : s.profileActive <;> simp_all [State.deviceFlags]

theorem HeadlineInOrder.setFrameLost {s : State} (h : HeadlineInOrder s) (on : Bool) : HeadlineInOrder (s.setFrameLost on) := by
  unfold State.setFrameLost
  split
  · exact h
  · refine headlineInOrder_judgeHeadline ?_
    rw [State.patternFor_congr (s := s) (by simp) (by simp)]
    simpa using h.2

end Sys2Proof.Machine
end

section
/-! How a condition on the state is kept through the ports. A transaction of the arm controller comes, by its class, to a few operations of the
blocks; `KeptByAcceptance` asks that each of these keep the condition, and the lemmas below carry it through every acceptance, through the
grants and returns that let stretched transactions in, and through the end of the sweep. -/

namespace Sys2Proof.Machine

/-! ### What does not move a class -/

theorem State.classify_congr {s t : State} (strap : t.strapPage = s.strapPage) (profile : t.profile.active = s.profile.active) (addr : Addr) :
    t.classify addr = s.classify addr := by
  have page : t.reportPage = s.reportPage := by simp [State.reportPage, strap]
  have ring : t.inRing addr = s.inRing addr := by simp [State.inRing, profile]
  have table : t.table = s.table := by simp [State.table, profile]
  unfold State.classify
  rw [strap, page, ring, table]

/-- Only while the profile is ACTIVE does a window decide. -/
theorem State.profileActive_of_classify_intent {s : State} {addr : Addr} {a : AxisId} (h : s.classify addr = .intent a) :
    s.profileActive = true := by
  unfold State.profileActive
  cases active : s.profile.active with
  | some p => rfl
  | none => simp only [State.classify, State.inRing, State.table, active, decidingWindow] at h; split_ifs at h; simp at h

theorem State.resetHeld_of_cportOpen (s : State) (h : s.cportOpen = true) : s.resetHeld = false := by
  simp only [State.cportOpen, Bool.and_eq_true, Bool.not_eq_true'] at h
  exact h.1.1

/-- The judgement of an apply looks at the axes' states and the Profile Unit without its shown results. -/
theorem State.judgeApply_shown (s : State) (r : ApplyResult) (o : Offset) :
    (({ s with profile := { s.profile with applyResult := r, applyOffset := o } }.mark .applyResult).raise .applyDone).judgeApply =
      s.judgeApply := by
  simp [State.judgeApply, State.structuralOk, State.allOff, State.axisActive, State.axis]

/-! ### A mark or a raise changes the report alone -/

/-! ### The condition's part -/

/-- What a change of the report keeps, a raise keeps. -/
theorem raise_of_report {Q : State → Prop} (report : ∀ s r, Q s → Q { s with report := r }) (s : State) (e : Event) (h : Q s) :
    Q (s.raise e) := by
  rw [State.raise_eq_setReport]
  exact report s _ h

/-- What every acceptance does to the report, the Profile Unit's copy and the queue keeps a condition. -/
structure KeptByQueueing (Q : State → Prop) : Prop where
  mark : ∀ s w, Q s → Q (s.mark w)
  raise : ∀ s e, Q s → Q (s.raise e)
  /-- The shadow, its touched marks, the sweep and the results shown. -/
  profileUnit : ∀ s u, u.active = s.profile.active → Q s → Q { s with profile := u }
  /-- A write joins the queue, bound only to the axis whose INTENT window decides its address; or a read does. -/
  enqueueWrite : ∀ s addr data lanes bind, s.cportOpen = true → (∀ a, bind = some a → s.classify addr = .intent a) → Q s →
    Q (s.enqueue (.write addr data lanes) bind)
  enqueueRead : ∀ s addr lanes bind, s.cportOpen = true → Q s → Q (s.enqueue (.read addr lanes) bind)
  consumer : ∀ s q, s.consumerValid q = true → Q s → Q { s with ring := { s.ring with consumer := q } }

namespace KeptByQueueing

variable {Q : State → Prop} (K : KeptByQueueing Q)
include K

theorem markIf {s : State} (h : Q s) (c : Bool) (w : ReportWord) : Q (s.markIf c w) := by
  unfold State.markIf
  split
  · exact K.mark s w h
  · exact h

end KeptByQueueing

/-- The one operation of a block that an acceptance comes to leads from one condition to another; what goes before keeps the first, what comes
after the second. -/
structure LedByAcceptance (Q P : State → Prop) : Prop where
  before : KeptByQueueing Q
  after_mark : ∀ s w, P s → P (s.mark w)
  after_raise : ∀ s e, P s → P (s.raise e)
  after_profileUnit : ∀ s u, u.active = s.profile.active → P s → P { s with profile := u }
  stays : ∀ s, Q s → P s
  recordIntent : ∀ s a addr data lanes, s.profileActive = true → s.classify addr = .intent a → Q s → P (s.recordIntent a addr data lanes)
  start : ∀ s a, s.profileActive = true → s.page.enabled a = true → (s.axis a).state = .off → (s.axis a).intentValid = true → Q s →
    P (s.startAxis a)
  stop : ∀ s a, s.profileActive = true → (s.axis a).state ≠ .off → Q s → P (s.stopAxis a)
  park : ∀ s a, s.profileActive = true → (s.axis a).state ≠ .off → Q s → P (s.hold a .command)
  release : ∀ s a, s.profileActive = true → (s.axis a).state = .held → Q s → P (s.releaseAxis a)
  zero : ∀ s, s.profileActive = true → Q s → P (zeroCommand s).2
  excite : ∀ s, s.profileActive = true → Q s → P (exciteCommand s).2
  tcSet : ∀ s, Q s → P (tcSetCommand s).2
  sourceReturn : ∀ s, s.profileActive = true → s.isLive s.page.primary = true → Q s → P (s.select (some s.page.primary))
  takeUp : ∀ s, s.resetHeld = false → s.judgeApply.1 = .applied → Q s → P s.takeUpProfile

namespace LedByAcceptance

variable {Q P : State → Prop} (K : LedByAcceptance Q P)
include K

/-! ### Commands and applies -/

theorem ownerCommand {s : State} (h : Q s) (active : s.profileActive = true) (code : Nat) (a : AxisId) : P (ownerCommand code a s).2 := by
  have refused := K.stays s h
  unfold Machine.ownerCommand
  split
  case h_1 =>
    unfold startCommand
    split_ifs with disabled on noIntent
    · exact refused
    · exact refused
    · exact refused
    · exact refused
    · exact refused
    · exact K.start s a active (by simpa using disabled) (by simpa using on) (by simpa using noIntent) h
  case h_2 =>
    unfold stopCommand
    split
    · exact refused
    · exact K.stop s a active ‹_› h
  case h_3 =>
    unfold parkCommand
    split
    · exact refused
    · exact K.park s a active ‹_› h
  case h_4 =>
    unfold releaseCommand
    split_ifs with elsewhere
    · exact refused
    · exact refused
    · exact K.release s a active (by simpa using elsewhere) h
  case h_5 => exact K.zero s active h
  case h_6 => exact K.excite s active h
  case h_7 => exact K.tcSet s h
  case h_8 =>
    unfold sourceReturnCommand
    split_ifs with _ dead
    · exact refused
    · exact refused
    · exact K.sourceReturn s active (by simpa using dead) h
  case h_9 => exact refused

theorem runCommand {s : State} (h : Q s) (code operand : Byte) : P (runCommand code operand s).2 := by
  have refused := K.stays s h
  unfold Machine.runCommand
  split_ifs with _ empty
  · exact refused
  · exact refused
  · exact refused
  · by_cases active : s.profileActive = true
    · exact K.ownerCommand h active _ _
    · have tcSet : code = 7 := by simpa [active] using empty
      subst tcSet
      exact K.tcSet s h

theorem command {s : State} (h : Q s) (w : Word) : P (s.command w) := by
  unfold State.command
  split
  · exact K.stays s h
  · exact K.after_raise _ _ (K.after_mark _ _ (K.after_profileUnit _ _ (by rfl) (K.runCommand h _ _)))

/-- An apply request keeps what an accepted apply keeps, while a reset stands or not. -/
theorem applyRequest {s : State} (h : Q s)
    (takeUp : ∀ u, u.resetHeld = s.resetHeld → u.judgeApply.1 = .applied → Q u → P u.takeUpProfile) : P s.applyRequest := by
  have shown : Q (({ s with profile := { s.profile with applyResult := s.judgeApply.1, applyOffset := s.judgeApply.2 } }.mark
      .applyResult).raise .applyDone) := K.before.raise _ _ (K.before.mark _ _ (K.before.profileUnit _ _ (by rfl) h))
  unfold State.applyRequest
  simp only []
  split
  next applied => exact takeUp _ (by simp) (by rw [State.judgeApply_shown]; exact applied) shown
  next => exact K.stays _ shown

theorem handOn {s : State} (h : Q s) (awake : s.resetHeld = false) (w : Offset) : P (s.handOn w) := by
  have nothing := K.stays s h
  unfold State.handOn
  (repeat' split)
  · exact K.command h _
  · exact K.applyRequest h fun u held => K.takeUp u (held.trans awake)
  · exact nothing
  · exact nothing

/-! ### Acceptance -/

theorem consumerWrite {s : State} (h : Q s) (isOpen : s.cportOpen = true) (addr : Addr) (data : Word) (lanes : Lanes) :
    P (s.consumerWrite addr data lanes) := by
  unfold State.consumerWrite
  split
  next valid =>
    have moved : Q (s.moveConsumer (s.proposedConsumer data lanes)) := K.before.markIf (K.before.consumer s _ valid h) _ _
    exact K.stays _ (K.before.enqueueWrite _ _ _ _ none (by simpa [State.cportOpen, State.readInFlight] using isOpen) (by simp) moved)
  next => exact K.stays _ (K.before.raise _ _ h)

theorem acceptClassified {s : State} (h : Q s) (isOpen : s.cportOpen = true) (addr : Addr) (data : Word) (lanes : Lanes) :
    P (s.acceptClassified addr data lanes) := by
  have stray : P s.stray := K.stays _ (K.before.raise _ _ h)
  unfold State.acceptClassified
  split
  next w _ =>
    exact K.handOn (K.before.enqueueWrite (s.mergeShadow w data lanes) _ _ _ none isOpen (by simp)
      (K.before.profileUnit _ _ (by rfl) h)) (s.resetHeld_of_cportOpen isOpen) w
  next =>
    split
    · exact K.consumerWrite h isOpen addr data lanes
    · exact stray
  next => exact stray
  next a decided =>
    have queued := K.before.enqueueWrite s addr data lanes (some a) isOpen (by rintro b ⟨⟩; exact decided) h
    exact K.recordIntent _ _ _ _ _ (State.profileActive_of_classify_intent decided)
      ((State.classify_congr rfl rfl addr).trans decided) queued
  next =>
    split
    · exact stray
    · exact K.stays _ (K.before.enqueueWrite s _ _ _ none isOpen (by simp) h)
  next => exact K.stays _ (K.before.enqueueWrite s _ _ _ none isOpen (by simp) h)

theorem accept {s : State} (h : Q s) (isOpen : s.cportOpen = true) (t : BusTxn) : P (s.accept t) := by
  cases t with
  | read addr lanes => exact K.stays _ (K.before.enqueueRead s _ _ _ isOpen h)
  | write addr data lanes =>
    simp only [State.accept]
    split
    · exact K.stays s h
    · exact K.acceptClassified h isOpen addr data lanes

/-- With nothing stretched, what is offered is accepted or stretched. -/
theorem offer {s : State} (h : Q s) (nothing : s.cport.offered = []) (t : BusTxn)
    (stretched : P { s with cport := { s.cport with offered := [t] } }) : P (s.offer t) := by
  cases isOpen : s.cportOpen with
  | true =>
    rw [State.offer_of_takes ⟨isOpen, nothing⟩]
    exact K.accept h isOpen t
  | false =>
    rw [State.offer_of_closed isOpen, nothing]
    exact stretched

end LedByAcceptance

/-- The operations of the blocks that the acceptance of a transaction comes to keep a condition. -/
structure KeptByAcceptance (P : State → Prop) : Prop extends KeptByQueueing P where
  clearEvents : ∀ s w, P s → P (s.clearEvents w)
  offered : ∀ s o, P s → P { s with cport := { s.cport with offered := o } }
  recordIntent : ∀ s a addr data lanes, s.profileActive = true → s.classify addr = .intent a → P s → P (s.recordIntent a addr data lanes)
  start : ∀ s a, s.profileActive = true → s.page.enabled a = true → (s.axis a).state = .off → (s.axis a).intentValid = true → P s →
    P (s.startAxis a)
  stop : ∀ s a, s.profileActive = true → (s.axis a).state ≠ .off → P s → P (s.stopAxis a)
  park : ∀ s a, s.profileActive = true → (s.axis a).state ≠ .off → P s → P (s.hold a .command)
  release : ∀ s a, s.profileActive = true → (s.axis a).state = .held → P s → P (s.releaseAxis a)
  zero : ∀ s, s.profileActive = true → P s → P (zeroCommand s).2
  excite : ∀ s, s.profileActive = true → P s → P (exciteCommand s).2
  tcSet : ∀ s, P s → P (tcSetCommand s).2
  sourceReturn : ∀ s, s.profileActive = true → s.isLive s.page.primary = true → P s → P (s.select (some s.page.primary))
  takeUp : ∀ s, s.resetHeld = false → s.judgeApply.1 = .applied → P s → P s.takeUpProfile

namespace KeptByAcceptance

variable {P : State → Prop} (K : KeptByAcceptance P)
include K

theorem led : LedByAcceptance P P where
  before := K.toKeptByQueueing
  after_mark := K.mark
  after_raise := K.raise
  after_profileUnit := K.profileUnit
  stays _ h := h
  recordIntent := K.recordIntent
  start := K.start
  stop := K.stop
  park := K.park
  release := K.release
  zero := K.zero
  excite := K.excite
  tcSet := K.tcSet
  sourceReturn := K.sourceReturn
  takeUp := K.takeUp

/-! ### Offers -/

theorem acceptOffers {s : State} (h : P s) (ts : List BusTxn) : P (s.acceptOffers ts) :=
  State.admit_keeps (fun _ t isOpen hs => K.led.accept hs isOpen t) K.offered s ts h

theorem offer {s : State} (h : P s) (t : BusTxn) : P (s.offer t) := K.acceptOffers h _

theorem admitStretched {s : State} (h : P s) : P s.admitStretched := K.acceptOffers h _

/-! ### Grants, returns and the sweep -/

theorem grantHead {s : State} (h : P s)
    (granted : ∀ e rest, s.grantsHead = true → s.cport.queue = e :: rest → P (s.grantEntry e rest)) : P s.grantHead := by
  unfold State.grantHead
  split
  next grants =>
    split
    next => exact h
    next e rest head => exact K.admitStretched (granted e rest grants head)
  next => exact h

/-- The return of a read keeps what its freeing of the port and the word it drives keep. -/
theorem completeRead {s : State} (h : P s)
    (returned : ∀ t bind w, s.mport.busy = some t → t.kind = .controllerRead bind →
      P { s with cport := { s.cport with readData := w }, mport := { s.mport with busy := none } }) : P s.completeRead := by
  unfold State.completeRead
  split
  next => exact h
  next t busy =>
    cases kind : t.kind with
    | controllerRead bind =>
      have freed := returned t bind (some (s.returnedWord bind t.addr)) busy kind
      refine K.admitStretched ?_
      by_cases own : t.addr = s.eventPendingAddr
      · rw [if_pos own]
        exact K.clearEvents _ _ freed
      · rw [if_neg own]
        exact freed
    | controllerWrite | refresh _ | boost | report | ringWord _ | sweepRead => exact h

theorem completeEventRead {s : State} (h : P s)
    (returned : ∀ t bind w, s.mport.busy = some t → t.kind = .controllerRead bind →
      P { s with cport := { s.cport with readData := w }, mport := { s.mport with busy := none } }) : P s.completeEventRead := by
  unfold State.completeEventRead
  (repeat' split)
  · exact h
  · exact K.completeRead h returned
  · exact h

theorem placeSwept {s : State} (h : P s) (pos : Offset) (w : Word) : P (s.placeSwept pos w) := by
  unfold State.placeSwept
  split
  · exact h
  · exact K.profileUnit _ _ (by rfl) h

theorem endSweep {s : State} (h : P s)
    (takeUp : ∀ u, u.resetHeld = s.resetHeld → u.judgeApply.1 = .applied → P u → P u.takeUpProfile) : P s.endSweep := by
  have swept : P (({ s with profile := { s.profile with sweep := .done } }.raise .sweepDone).mark .profileState) :=
    K.mark _ _ (K.raise _ _ (K.profileUnit _ _ (by rfl) h))
  unfold State.endSweep
  simp only []
  split
  · exact K.led.applyRequest swept fun u held => takeUp u (by simpa using held)
  · exact swept

theorem completeSweepRead {s : State} (h : P s)
    (freed : ∀ t, s.mport.busy = some t → t.kind = .sweepRead → P s.freePort)
    (takeUp : ∀ t, s.mport.busy = some t → t.kind = .sweepRead →
      ∀ u, u.resetHeld = s.resetHeld → u.judgeApply.1 = .applied → P u → P u.takeUpProfile) : P s.completeSweepRead := by
  unfold State.completeSweepRead
  split
  next t pos busy sweep =>
    cases kind : t.kind with
    | sweepRead =>
      have placed := K.placeSwept (freed t busy kind) pos (s.ram.readWord t.addr)
      simp only []
      split
      · exact K.endSweep placed fun u held => takeUp t busy kind u (by simpa using held)
      · exact K.profileUnit _ _ (by rfl) placed
    | controllerWrite | controllerRead _ | refresh _ | boost | report | ringWord _ => exact h
  next => exact h

end KeptByAcceptance

/-- What every command keeps, every step keeps. -/
theorem step_keeps {P : State → Prop} (pending : ∀ s l, P s → P { s with pending := l })
    (command : ∀ c s t, P s → exec c s = .next t → P t) {s t : State} (h : P s) (hs : step s = .next t) : P t := by
  unfold step at hs
  split at hs
  next => cases hs; exact h
  next c rest _ => exact command c _ t (pending s rest h) hs

/-- What a command does only while no reset stands. -/
theorem keeps_unless_reset {P : State → Prop} {s t : State} (h : P s) (k : s.resetHeld = false → P t) :
    P (if s.resetHeld then s else t) := by
  cases held : s.resetHeld with
  | true => exact h
  | false => exact k held

end Sys2Proof.Machine
end

section
/-! How a condition on the state is kept by every command. `KeptByCommands` asks, beside what an acceptance comes to, that the resets, the
pulses, the expiries, the frames, the grants and the readys keep the condition; then every command and every step does. -/

namespace Sys2Proof.Machine

/-- The operations that the commands come to keep a condition. -/
structure KeptByCommands (P : State → Prop) : Prop extends KeptByAcceptance P where
  pending : ∀ s l, P s → P { s with pending := l }
  reset : ∀ (s : State) bias timecode, timecode = .powerOn ∨ timecode = s.timecode.lineReset → P s → P (s.resetBlocks bias timecode)
  strapsRead : ∀ s straps, s.resetHeld = true → P s → P { s with resetHeld := false, strapPage := straps }
  tick : ∀ s, P s → P s.tick
  assembly : ∀ s line asm, P s → P (s.setAssembly line asm)
  acceptFrame : ∀ s line f, s.resetHeld = false → P s → P (s.acceptFrame line f)
  staleExpiry : ∀ s src, P s → P (s.staleExpiry src)
  silenceExpiry : ∀ s a, P s → P (s.silenceExpiry a)
  dwellExpiry : ∀ s a, P s → P (s.dwellExpiry a)
  deadlineExpiry : ∀ s a, P s → P (s.deadlineExpiry a)
  toggleLamp : ∀ s, P s → P s.toggleLamp
  settleExpiry : ∀ s, P s → P s.settleExpiry
  exitHoldExpiry : ∀ s, P s → P s.exitHoldExpiry
  frameLostExpiry : ∀ s, P s → P s.frameLostExpiry
  framePulse : ∀ s, P s → P s.framePulse
  headGranted : ∀ s e rest, s.grantsHead = true → s.cport.queue = e :: rest → P s → P (s.grantEntry e rest)
  refreshGrant : ∀ s, P s → P s.grantRefresh
  boostGrant : ∀ s, P s → P s.grantBoost
  reportGrant : ∀ s, P s → P s.grantReport
  ringGrant : ∀ s, P s → P s.grantRing
  sweepGrant : ∀ s, P s → P s.grantSweep
  writeReady : ∀ s, P s → P s.completeWrite
  ringReady : ∀ s, P s → P s.completeRingWord
  sweepReady : ∀ s t, s.mport.busy = some t → t.kind = .sweepRead → P s → P s.freePort
  /-- The start-up apply, at the ready of the last sweep read. -/
  startUpApply : ∀ s t, s.mport.busy = some t → t.kind = .sweepRead → P s →
    ∀ u, u.resetHeld = s.resetHeld → u.judgeApply.1 = .applied → P u → P u.takeUpProfile
  readReady : ∀ s t bind w, s.mport.busy = some t → t.kind = .controllerRead bind → P s →
    P { s with cport := { s.cport with readData := w }, mport := { s.mport with busy := none } }

namespace KeptByCommands

variable {P : State → Prop} (K : KeptByCommands P)
include K

theorem judgeFrame {s : State} (h : P s) (ready : s.resetHeld = false) (line : Source) (f : List Byte) : P (s.judgeFrame line f) := by
  unfold State.judgeFrame
  split_ifs
  · exact K.assembly s line _ h
  · exact K.assembly s line _ h
  · exact K.acceptFrame s line f ready h

theorem checkFrame {s : State} (h : P s) (ready : s.resetHeld = false) (line : Source) : P (s.checkFrame line) := by
  unfold State.checkFrame
  split
  · exact h
  · exact K.judgeFrame h ready line _

theorem endReset {s : State} (h : P s) (straps : PageNo) : P (s.endReset straps) := by
  unfold State.endReset
  split
  · exact K.admitStretched (K.strapsRead s straps ‹_› h)
  · exact h

theorem exec {c : Instr} {s t : State} (h : P s) (he : exec c s = .next t) : P t := by
  cases c <;> cases he
  case powerOnReset => exact K.reset s _ _ (.inl rfl) h
  case lineReset => exact K.reset s _ _ (.inr rfl) h
  case resetEnd straps => exact K.endReset h straps
  case timeBasePulse => exact keeps_unless_reset h fun _ => K.tick s h
  case goodByte line _ | framingError line | byteTimeout line =>
    exact keeps_unless_reset h fun ready => K.assembly _ line _ (K.checkFrame h ready line)
  case inertialFrame line => exact keeps_unless_reset h fun ready => K.checkFrame h ready line
  case staleExpiry src => exact K.staleExpiry s src h
  case silenceExpiry a => exact K.silenceExpiry s a h
  case dwellExpiry a => exact K.dwellExpiry s a h
  case refreshDeadlineExpiry a => exact K.deadlineExpiry s a h
  case statBlinkToggle => exact K.toggleLamp s h
  case settleExpiry => exact K.settleExpiry s h
  case exitHoldExpiry => exact K.exitHoldExpiry s h
  case frameLostExpiry => exact K.frameLostExpiry s h
  case framePulse => exact K.framePulse s h
  case start | stop | park | release | zero | excite | tcSet | sourceReturn | unknownCommand | apply | intentWrite | ringConsumer
      | controllerWrite | controllerRead => exact K.offer h _
  case queueHeadGrant => exact K.grantHead h fun e rest grants head => K.headGranted s e rest grants head h
  case refreshGrant => exact K.refreshGrant s h
  case boostGrant => exact K.boostGrant s h
  case reportWordGrant => exact K.reportGrant s h
  case ringWordGrant => exact K.ringGrant s h
  case sweepReadGrant => exact K.sweepGrant s h
  case writeComplete => exact K.writeReady s h
  case ringWordDone => exact K.ringReady s h
  case sweepReadDone =>
    exact K.completeSweepRead h (fun t busy kind => K.sweepReady s t busy kind h)
      fun t busy kind => K.startUpApply s t busy kind h
  case readReturn => exact K.completeRead h fun t bind w busy kind => K.readReady s t bind w busy kind h
  case eventPending => exact K.completeEventRead h fun t bind w busy kind => K.readReady s t bind w busy kind h

theorem step {s t : State} (h : P s) (hs : step s = .next t) : P t := step_keeps K.pending (fun _ _ _ => K.exec) h hs

end KeptByCommands

end Sys2Proof.Machine
end

section
/-! Conditions that every run of operations on axes keeps: what is left to ask of the resets, the selection, FRAME_LOST and an accepted apply for
every command to keep them. -/

namespace Sys2Proof.Machine

/-! ### More runs -/

theorem HeadlineInOrder.congr_of_shown {s t : State} (h : HeadlineInOrder s) (profile : t.profile.active = s.profile.active)
    (device : t.deviceFlags = s.deviceFlags) (headline : t.faults.headline = s.faults.headline)
    (pattern : t.faults.pattern = s.faults.pattern) (flags : ∀ a, (t.axis a).flags = (s.axis a).flags) : HeadlineInOrder t := by
  obtain ⟨first, shown⟩ := h
  exact ⟨by rw [headline, first, State.firstActive_congr profile (State.classActive_congr device flags)],
    by rw [pattern, shown, State.patternFor_congr profile headline]⟩

/-- An operation that leaves the axes' states and flags, the burst, the device flags, the headline and the pattern. -/
theorem AxisRun.of_shown {s t : State} (profile : t.profile.active = s.profile.active) (selected : t.selected = s.selected)
    (device : t.deviceFlags = s.deviceFlags) (headline : t.faults.headline = s.faults.headline)
    (pattern : t.faults.pattern = s.faults.pattern) (burst : t.burst = s.burst)
    (axes : ∀ a, (t.axis a).state = (s.axis a).state ∧ (t.axis a).flags = (s.axis a).flags) : AxisRun s t where
  profile := profile
  selected := selected
  device := device
  flags_of_empty _ a := (axes a).2
  headline h := h.congr_of_shown profile device headline pattern fun a => (axes a).2
  burst h := h.congr burst (fun a => (axes a).1) selected

@[simp] theorem State.axis_tick (s : State) (a : AxisId) : s.tick.axis a = (s.axis a).tick := by
  simp [State.axis, State.tick, Vector.get_eq_getElem]

theorem axisRun_tick (s : State) : AxisRun s s.tick :=
  .of_shown rfl rfl rfl rfl rfl rfl fun a => by rw [State.axis_tick]; exact ⟨rfl, rfl⟩

theorem axisRun_toggleLamp (s : State) : AxisRun s s.toggleLamp := by
  unfold State.toggleLamp
  split
  · exact .of_shown rfl rfl rfl rfl rfl rfl fun a => ⟨rfl, rfl⟩
  · exact .refl s

/-- An operation that leaves the axes and changes the burst, where it keeps the burst in order. -/
theorem AxisRun.of_burst {s t : State} (profile : t.profile.active = s.profile.active) (selected : t.selected = s.selected)
    (faults : t.faults = s.faults) (axes : t.axes = s.axes) (burst : BurstOnStabilising s → BurstOnStabilising t) : AxisRun s t where
  profile := profile
  selected := selected
  device := State.deviceFlags_congr faults
  flags_of_empty _ a := by rw [State.axis_congr axes a]
  headline h := h.congr profile faults fun a => by rw [State.axis_congr axes a]
  burst := burst

@[simp] theorem Burst.nextValue_frame (b : Burst) : b.nextValue.state = b.state ∧ b.nextValue.axis = b.axis := by
  unfold Burst.nextValue
  split <;> exact ⟨rfl, rfl⟩

@[simp] theorem Burst.advance_frame (b : Burst) : b.advance.state = b.state ∧ b.advance.axis = b.axis := by
  unfold Burst.advance
  simp only []
  split <;> simp

/-- An arrival ends a burst or lets it run on, on the axis it is on. -/
theorem axisRun_burstStep (s : State) : AxisRun s s.burstStep := by
  refine .of_burst (by simp) (by simp) (by simp) (by simp) fun h => ?_
  unfold State.burstStep
  split_ifs with idle last
  · exact h
  · exact burstOnStabilising_of_idle (by simp) (by simp)
  · obtain ⟨running, -⟩ := h
    exact ⟨by simpa [State.axis] using running, by simp [idle]⟩

theorem axisRun_updateLevel (s : State) (d : AxisId → Int) : AxisRun s (s.updateLevel d) :=
  .of_axes_eq (by simp) (by simp) (by simp) (by simp) (by simp)

theorem axisRun_captureStep (s : State) (arr : Arrival) : AxisRun s (s.captureStep arr) :=
  .of_axes_eq (by simp) (by simp) (by simp) (by simp) (by simp)

theorem axisRun_arrival (s : State) (arr : Arrival) : AxisRun s (s.arrival arr) :=
  .comp (axisRun_captureStep _ arr) <| .comp (axisRun_updateLevel _ _) <| .comp (axisRun_burstStep _) <|
    .comp (axisRun_forAxes (fun a t => axisRun_arrivalAt t a) _) <|
      axisRun_forAxes (fun a t => axisRun_integrateAxis arr (s.axisRate arr a) t a) s

/-- EXCITE starts a burst on a STABILISING axis alone, and while a source is selected. -/
theorem axisRun_exciteCommand (s : State) : AxisRun s (exciteCommand s).2 := by
  refine .of_burst (by simp) (by simp) (by simp) (by simp) fun h => ?_
  unfold exciteCommand
  simp only []
  split_ifs with bad busy elsewhere unselected
  · exact h
  · exact h
  · exact h
  · exact h
  · exact ⟨fun _ => ⟨not_not.mp elsewhere, unselected⟩, fun idle => by simp [ExciteRequest.burst] at idle⟩

theorem axisRun_grantEntry (s : State) (e : QEntry) (rest : List QEntry) : AxisRun s (s.grantEntry e rest) := by
  have granted : AxisRun s { s with
      cport := { s.cport with queue := rest }
      mport := { s.mport with busy := some (s.carried e), starvation := s.headStarvation } } := .of_axes_eq rfl rfl rfl rfl rfl
  unfold State.grantEntry
  simp only []
  split
  · exact .comp (axisRun_clearRefresh _ _) granted
  · exact granted

theorem axisRun_grantRefresh (s : State) : AxisRun s s.grantRefresh := by
  unfold State.grantRefresh
  (repeat' split)
  · exact .refl s
  · exact .comp (axisRun_clearRefresh _ _) (.of_axes_eq (by simp) (by simp) (by simp) (by simp) (by simp))
  · exact .refl s

/-! ### Acceptance of a frame -/

/-- The state that an accepted frame has reached when its arrival comes: the source's record, and the selection reviewed where the source
becomes LIVE. -/
def State.frameSeen (s : State) (line : Source) (f : List Byte) : State :=
  let t := s.setLink line (acceptedLink (s.link line) f)
  if (s.link line).state = .live then t else (t.mark .sourceState).reviewSelection

theorem State.acceptFrame_eq (s : State) (line : Source) (f : List Byte) :
    s.acceptFrame line f =
      if (s.frameSeen line f).selected = some line then
        (s.frameSeen line f).arrival
          { source := line, rates := frameRates f, gap := sequenceGap (s.link line) (frameByte f 1) }
      else s.frameSeen line f := rfl

/-! ### What is left to ask -/

/-- What every run keeps is kept by every command, where the resets, the selection, FRAME_LOST and an accepted apply keep it. -/
theorem keptByCommands_of_runs {P : State → Prop} (runs : ∀ s t, AxisRun s t → P s → P t)
    (reset : ∀ (s : State) bias timecode, P (s.resetBlocks bias timecode)) (select : ∀ s new, P s → P (s.select new))
    (frameLost : ∀ s on, P s → P (s.setFrameLost on)) (takeUp : ∀ s, P s → P s.takeUpProfile) : KeptByCommands P := by
  have same : ∀ s t : State, t.profile.active = s.profile.active → t.selected = s.selected → t.faults = s.faults → t.burst = s.burst →
      t.axes = s.axes → P s → P t := fun s t h1 h2 h3 h4 h5 => runs s t (.of_axes_eq h1 h2 h3 h4 h5)
  have review : ∀ s, P s → P s.reviewSelection := fun s h => by
    unfold State.reviewSelection
    split
    · exact select s _ h
    · exact h
  exact {
    mark := fun s w => same _ _ rfl rfl rfl rfl rfl
    raise := raise_of_report fun s r => same _ _ rfl rfl rfl rfl rfl
    clearEvents := fun s w => same _ _ rfl rfl rfl rfl rfl
    profileUnit := fun s u active => same _ _ active rfl rfl rfl rfl
    offered := fun s o => same _ _ rfl rfl rfl rfl rfl
    enqueueWrite := fun s _ _ _ _ _ _ => same _ _ rfl rfl rfl rfl rfl
    enqueueRead := fun s _ _ _ _ => same _ _ rfl rfl rfl rfl rfl
    consumer := fun s q _ => same _ _ rfl rfl rfl rfl rfl
    recordIntent := fun s a addr data lanes _ _ => runs _ _ (axisRun_recordIntent s a addr data lanes)
    start := fun s a _ _ _ _ => runs _ _ (axisRun_startAxis s a)
    stop := fun s a _ _ => runs _ _ (axisRun_stopAxis s a)
    park := fun s a _ _ => runs _ _ (axisRun_hold s a .command)
    release := fun s a _ _ => runs _ _ (axisRun_releaseAxis s a)
    zero := fun s _ => same _ _ (by simp) (by simp) (by simp) (by simp) (by simp)
    excite := fun s _ => runs _ _ (axisRun_exciteCommand s)
    tcSet := fun s => same _ _ (by simp) (by simp) (by simp) (by simp) (by simp)
    sourceReturn := fun s _ _ => select s _
    takeUp := fun s _ _ => takeUp s
    startUpApply := fun _ _ _ _ _ u _ _ => takeUp u
    pending := fun s l => same _ _ rfl rfl rfl rfl rfl
    reset := fun s bias timecode _ _ => reset s bias timecode
    strapsRead := fun s straps _ => same _ _ rfl rfl rfl rfl rfl
    tick := fun s => runs _ _ (axisRun_tick s)
    assembly := fun s line asm => same _ _ (by simp) (by simp) (by simp) (by simp) (by simp)
    acceptFrame := fun s line f _ h => by
      have recorded : P (s.setLink line (acceptedLink (s.link line) f)) := same s _ rfl rfl rfl rfl rfl h
      have seen : P (s.frameSeen line f) := by
        unfold State.frameSeen
        simp only []
        split
        · exact recorded
        · exact review _ (same (s.setLink line (acceptedLink (s.link line) f)) _ rfl rfl rfl rfl rfl recorded)
      rw [State.acceptFrame_eq]
      split
      · exact runs _ _ (axisRun_arrival _ _) seen
      · exact seen
    staleExpiry := fun s src h => by
      have stale : P ((s.setLink src { s.link src with state := .stale, staleTimer := none }).mark .sourceState) :=
        same s _ rfl rfl rfl rfl rfl h
      unfold State.staleExpiry
      simp only []
      (repeat' split)
      · exact h
      · exact select _ _ stale
      · exact stale
    silenceExpiry := fun s a => runs _ _ (axisRun_silenceExpiry s a)
    dwellExpiry := fun s a => runs _ _ (axisRun_dwellExpiry s a)
    deadlineExpiry := fun s a => runs _ _ (axisRun_deadlineExpiry s a)
    toggleLamp := fun s => runs _ _ (axisRun_toggleLamp s)
    settleExpiry := fun s => same _ _ (by simp) (by simp) (by simp) (by simp) (by simp)
    exitHoldExpiry := fun s => same _ _ (by simp) (by simp) (by simp) (by simp) (by simp)
    frameLostExpiry := fun s h => by
      unfold State.frameLostExpiry
      split
      · exact h
      · exact frameLost _ _ (same s _ rfl rfl rfl rfl rfl h)
    framePulse := fun s h => by
      have pulsed : P s.pulseFrameLost := by
        unfold State.pulseFrameLost
        split
        · exact h
        · exact frameLost _ _ (same s _ rfl rfl rfl rfl rfl h)
      exact same _ _ (by simp [State.framePulse]) (by simp [State.framePulse]) (by simp [State.framePulse])
        (by simp [State.framePulse]) (by simp [State.framePulse]) pulsed
    headGranted := fun s e rest _ _ => runs _ _ (axisRun_grantEntry s e rest)
    refreshGrant := fun s => runs _ _ (axisRun_grantRefresh s)
    boostGrant := fun s => same _ _ (by simp) (by simp) (by simp) (by simp) (by simp)
    reportGrant := fun s => same _ _ (by simp) (by simp) (by simp) (by simp) (by simp)
    ringGrant := fun s => same _ _ (by simp) (by simp) (by simp) (by simp) (by simp)
    sweepGrant := fun s => same _ _ (by simp) (by simp) (by simp) (by simp) (by simp)
    writeReady := fun s => same _ _ (by simp) (by simp) (by simp) (by simp) (by simp)
    ringReady := fun s => same _ _ (by simp) (by simp) (by simp) (by simp) (by simp)
    sweepReady := fun s _ _ _ => same _ _ rfl rfl rfl rfl rfl
    readReady := fun s _ _ _ _ _ => same _ _ rfl rfl rfl rfl rfl }

end Sys2Proof.Machine
end

section
/-! The headline and the STAT pattern (R141, R142), the source classes (R132) and the burst (R126 to R128) stay in order: each is kept by every
run of operations on axes, by a change of the selection and by an accepted apply. -/

namespace Sys2Proof.Machine

/-! ### A change of the selection -/

theorem State.select_selected (s : State) (new : Option Source) : (s.select new).selected = new := by
  by_cases same : s.selected = new
  · subst same; rw [State.select_same]
  · rw [State.select_of_ne same]
    simp

theorem State.switched_axis (s : State) (new : Option Source) (a : AxisId) : (s.switched new).axis a = s.axis a :=
  State.axis_congr (by simp) a

theorem HeadlineInOrder.select {s : State} (h : HeadlineInOrder s) (new : Option Source) : HeadlineInOrder (s.select new) := by
  by_cases same : s.selected = new
  · subst same; rw [State.select_same]; exact h
  · rw [State.select_of_ne same]
    exact (h.congr (by simp) (by simp) fun a => by rw [State.switched_axis]).judgeSources

/-- The flags that a change of the selection leaves under an ACTIVE profile. -/
theorem State.select_deviceFlags {s : State} (active : s.profileActive = true) {new : Option Source} (changes : s.selected ≠ new) :
    (s.select new).deviceFlags = (decide (new = none), decide (new = some (otherSource s.page.primary)), s.faults.frameLost) := by
  rw [State.select_of_ne changes, State.judgeSources_deviceFlags (by simpa using active)]
  simp

/-! ### The headline (R141, R142) -/

theorem headlineInOrder_resetBlocks (s : State) (bias : PerSource Channels) (timecode : Timecode) :
    HeadlineInOrder (s.resetBlocks bias timecode) := ⟨rfl, rfl⟩

theorem keptByCommands_headlineInOrder : KeptByCommands HeadlineInOrder :=
  keptByCommands_of_runs (fun _ _ run => run.headline) headlineInOrder_resetBlocks (fun _ new h => h.select new)
    (fun _ on h => h.setFrameLost on) (fun _ _ => headlineInOrder_judged _)

/-! ### The source classes (R131, R132) -/

theorem sourceClassesInOrder_of_active {s : State} (active : s.profileActive = true) :
    SourceClassesInOrder s ↔ s.faults.sourceLost = decide (s.selected = none) ∧
      s.faults.sourceFallback = decide (s.selected = some (otherSource s.page.primary)) := by
  rw [SourceClassesInOrder, if_pos active]

theorem sourceClassesInOrder_of_empty {s : State} (empty : s.profileActive = false) :
    SourceClassesInOrder s ↔ ∀ c ∈ FaultClass.all, s.classActive c = false := by
  rw [SourceClassesInOrder, if_neg (by simp [empty])]

theorem sourceClassesInOrder_of_deviceFlags {s : State} {frameLost : Bool} (active : s.profileActive = true)
    (flags : s.deviceFlags = (decide (s.selected = none), decide (s.selected = some (otherSource s.page.primary)), frameLost)) :
    SourceClassesInOrder s := by
  simp only [State.deviceFlags, Prod.mk.injEq] at flags
  exact (sourceClassesInOrder_of_active active).mpr ⟨flags.1, flags.2.1⟩

theorem SourceClassesInOrder.run {s t : State} (run : AxisRun s t) (h : SourceClassesInOrder s) : SourceClassesInOrder t := by
  have profile := State.profileActive_congr run.profile
  cases active : s.profileActive with
  | true =>
    have device := run.device
    simp only [State.deviceFlags, Prod.mk.injEq] at device
    rw [sourceClassesInOrder_of_active (profile.trans active), run.selected, State.page_congr run.profile, device.1, device.2.1]
    exact (sourceClassesInOrder_of_active active).mp h
  | false =>
    rw [sourceClassesInOrder_of_empty (profile.trans active), State.classActive_congr run.device (run.flags_of_empty active)]
    exact (sourceClassesInOrder_of_empty active).mp h

/-- In an EMPTY profile a change of the selection moves no flag; in an ACTIVE one the source classes are judged afresh. -/
theorem SourceClassesInOrder.select {s : State} (h : SourceClassesInOrder s) (new : Option Source) : SourceClassesInOrder (s.select new) := by
  by_cases same : s.selected = new
  · subst same; rw [State.select_same]; exact h
  · cases active : s.profileActive with
    | true =>
      refine sourceClassesInOrder_of_deviceFlags (frameLost := s.faults.frameLost) (by simpa using active) ?_
      rw [State.select_deviceFlags active same, State.select_selected]
      simp
    | false =>
      rw [State.select_of_ne same, State.judgeSources_of_empty (by simpa using active), sourceClassesInOrder_of_empty (by simpa using active),
        State.classActive_congr (s := s) (State.deviceFlags_congr (by simp)) fun a => by rw [State.switched_axis]]
      exact (sourceClassesInOrder_of_empty active).mp h

theorem SourceClassesInOrder.setFrameLost {s : State} (h : SourceClassesInOrder s) (on : Bool) : SourceClassesInOrder (s.setFrameLost on) := by
  cases active : s.profileActive with
  | true =>
    refine sourceClassesInOrder_of_deviceFlags (frameLost := on) (by simpa using active) ?_
    rw [sourceClassesInOrder_of_active active] at h
    rw [State.setFrameLost_deviceFlags, h.1, h.2]
    simp [active]
  | false =>
    have same : s.setFrameLost on = s := by simp [State.setFrameLost, active]
    rw [same]; exact h

/-- What an accepted apply leaves of the device classes: the source classes by the selection, and FRAME_LOST where the first profile finds the
condition standing (R143). -/
theorem State.takeUpFaults_deviceFlags {s : State} (active : s.profileActive = true) (old : Option Page) :
    (s.takeUpFaults old).deviceFlags = (decide (s.selected = none), decide (s.selected = some (otherSource s.page.primary)),
      s.faults.frameLost || (old.isNone && s.timecode.frameLost)) := by
  unfold State.takeUpFaults
  simp only []
  rw [(State.judgeStat_faults _).2.1, State.judgeHeadline_deviceFlags]
  have judged := State.judgeSources_deviceFlags active
  split
  next takes =>
    have takes' : old.isNone = true ∧ s.timecode.frameLost = true := by simpa using takes
    have flags := judged
    simp only [State.deviceFlags, Prod.mk.injEq] at flags
    rw [State.setFrameLost_deviceFlags, flags.1, flags.2.1]
    simp [takes', active]
  next leaves =>
    have leaves' : (old.isNone && s.timecode.frameLost) = false := by simpa using leaves
    rw [judged, leaves', Bool.or_false]

theorem State.reviewed_active (s : State) : s.retabled.reviewSelection.profileActive = true := by
  simpa using s.retabled_active

theorem sourceClassesInOrder_takeUpProfile (s : State) : SourceClassesInOrder s.takeUpProfile := by
  have active := s.reviewed_active
  have flags := State.takeUpFaults_deviceFlags active s.profile.active
  rw [State.takeUpProfile_eq]
  exact sourceClassesInOrder_of_deviceFlags (by simpa using active) (by simpa using flags)

theorem sourceClassesInOrder_resetBlocks (s : State) (bias : PerSource Channels) (timecode : Timecode) :
    SourceClassesInOrder (s.resetBlocks bias timecode) := by
  rw [sourceClassesInOrder_of_empty rfl]
  have axes := s.resetBlocks_axis bias timecode
  intro c _
  cases c <;> simp [State.classActive, axes, anyAxis, Axis.reset] <;> rfl

theorem keptByCommands_sourceClassesInOrder : KeptByCommands SourceClassesInOrder :=
  keptByCommands_of_runs (fun _ _ run h => h.run run) sourceClassesInOrder_resetBlocks (fun _ new h => h.select new)
    (fun _ on h => h.setFrameLost on) (fun s _ => sourceClassesInOrder_takeUpProfile s)

/-! ### The burst (R126 to R128) -/

theorem BurstOnStabilising.switched {s : State} (h : BurstOnStabilising s) (new : Option Source) : BurstOnStabilising (s.switched new) := by
  obtain ⟨running, idle⟩ := h
  have base : ∀ t : State, t.burst = s.burst → t.axes = s.axes → (t.selected = none → t.burst.state = .idle) → BurstOnStabilising t :=
    fun t burst axes selected => by
      refine ⟨fun run => ⟨?_, fun none => ?_⟩, fun rest => by rw [burst] at rest ⊢; exact idle rest⟩
      · rw [burst] at run ⊢
        rw [State.axis_congr axes]
        exact (running run).1
      · rw [selected none] at run; cases run
  unfold State.switched
  simp only []
  split
  next none =>
    unfold State.abortBurst
    split
    next => exact burstOnStabilising_of_idle (by simp) (by simp)
    next rests => exact base _ (by simp) (by simp) fun _ => (RunState.not_running_iff _).mp rests
  next some => exact base _ (by simp) (by simp) fun none => absurd (by simpa using none) some

theorem BurstOnStabilising.select {s : State} (h : BurstOnStabilising s) (new : Option Source) : BurstOnStabilising (s.select new) := by
  by_cases same : s.selected = new
  · subst same; rw [State.select_same]; exact h
  · rw [State.select_of_ne same]
    exact (h.switched new).judgeSources

theorem BurstOnStabilising.setFrameLost {s : State} (h : BurstOnStabilising s) (on : Bool) : BurstOnStabilising (s.setFrameLost on) :=
  h.congr (by simp) (fun a => by rw [State.axis_congr (s := s) (by simp) a]) (by simp)

theorem BurstOnStabilising.reviewSelection {s : State} (h : BurstOnStabilising s) : BurstOnStabilising s.reviewSelection := by
  unfold State.reviewSelection
  split
  · exact h.select _
  · exact h

theorem BurstOnStabilising.takeUpFaults {s : State} (h : BurstOnStabilising s) (old : Option Page) : BurstOnStabilising (s.takeUpFaults old) := by
  have judged : ∀ t : State, BurstOnStabilising t → BurstOnStabilising t.judgeHeadline.judgeStat := fun t ht =>
    ht.congr (by simp) (fun a => by rw [State.axis_congr (s := t) (by simp) a]) (by simp)
  unfold State.takeUpFaults
  simp only []
  split
  · exact judged _ (h.judgeSources.setFrameLost true)
  · exact judged _ h.judgeSources

theorem retabledAxis_state (old : Option Page) (p : Page) (ax : Axis) : (retabledAxis old p ax).state = ax.state := by
  unfold retabledAxis
  split <;> rfl

theorem BurstOnStabilising.takeUpProfile {s : State} (h : BurstOnStabilising s) : BurstOnStabilising s.takeUpProfile := by
  have retabled : BurstOnStabilising s.retabled :=
    h.congr (by simp) (fun a => by rw [State.axis_retabled, retabledAxis_state]) (by simp)
  rw [State.takeUpProfile_eq]
  exact retabled.reviewSelection.takeUpFaults _

theorem keptByCommands_burstOnStabilising : KeptByCommands BurstOnStabilising :=
  keptByCommands_of_runs (fun _ _ run => run.burst) (fun _ _ _ => burstOnStabilising_of_idle rfl rfl) (fun _ new h => h.select new)
    (fun _ on h => h.setFrameLost on) (fun _ h => h.takeUpProfile)

end Sys2Proof.Machine
end

section
/-! The selection (R12 to R15): the selected source is LIVE under an ACTIVE profile, and with none selected none is LIVE that the profile would
take. The second part can break only where a source becomes LIVE or a profile is taken up, and there the selection is reviewed. -/

namespace Sys2Proof.Machine

theorem State.link_setLink (s : State) (src other : Source) (l : Link) :
    (s.setLink src l).link other = if other = src then l else s.link other := by
  split
  next same => subst same; simp
  next differs => exact s.link_setLink_ne l differs

/-- A selection that is in order under the state's profile and its sources' states. -/
def SelectionProper (s : State) (new : Option Source) : Prop :=
  (∀ src, new = some src → (s.link src).state = .live ∧ s.profileActive = true) ∧
    (s.profileActive = true → new = none →
      (s.link s.page.primary).state ≠ .live ∧ (s.page.fallback = true → (s.link (otherSource s.page.primary)).state ≠ .live))

theorem selectionInOrder_iff (s : State) : SelectionInOrder s ↔ SelectionProper s s.selected := Iff.rfl

theorem SelectionProper.congr {s t : State} {new : Option Source} (h : SelectionProper s new)
    (profile : t.profile.active = s.profile.active) (links : ∀ src, (t.link src).state = (s.link src).state) : SelectionProper t new := by
  simpa [SelectionProper, State.profileActive, State.page, profile, links] using h

theorem SelectionInOrder.congr_of_states {s t : State} (h : SelectionInOrder s) (profile : t.profile.active = s.profile.active)
    (selected : t.selected = s.selected) (links : ∀ src, (t.link src).state = (s.link src).state) : SelectionInOrder t := by
  rw [selectionInOrder_iff] at h ⊢
  rw [selected]
  exact h.congr profile links

theorem SelectionInOrder.congr {s t : State} (h : SelectionInOrder s) (profile : t.profile.active = s.profile.active)
    (selected : t.selected = s.selected) (links : t.links = s.links) : SelectionInOrder t :=
  h.congr_of_states profile selected fun src => by rw [State.link_congr links]

theorem SelectionProper.select {s : State} {new : Option Source} (h : SelectionProper s new) : SelectionInOrder (s.select new) := by
  rw [selectionInOrder_iff, State.select_selected]
  exact h.congr (by simp) fun src => by rw [State.link_congr (s := s) (by simp)]

/-! ### The selections that R12 and R14 make -/

theorem State.isLive_iff (s : State) (src : Source) : s.isLive src = true ↔ (s.link src).state = .live := by
  simp [State.isLive]

theorem selectionProper_sourceToSelect {s : State} (active : s.profileActive = true) : SelectionProper s s.sourceToSelect := by
  unfold State.sourceToSelect
  split_ifs with primary other
  · exact ⟨by rintro src ⟨⟩; exact ⟨(s.isLive_iff _).mp primary, active⟩, by simp⟩
  · rw [Bool.and_eq_true] at other
    exact ⟨by rintro src ⟨⟩; exact ⟨(s.isLive_iff _).mp other.2, active⟩, by simp⟩
  · refine ⟨by simp, fun _ _ => ⟨mt (s.isLive_iff _).mpr primary, fun fallback live => other ?_⟩⟩
    rw [fallback, (s.isLive_iff _).mpr live, Bool.and_true]

/-- With the selected source not LIVE the other one is taken where the profile would take it. -/
theorem selectionProper_fallbackFrom {s : State} (active : s.profileActive = true) {src : Source} (dead : (s.link src).state ≠ .live) :
    SelectionProper s (s.fallbackFrom src) := by
  unfold State.fallbackFrom
  split_ifs with takes
  · rw [Bool.and_eq_true] at takes
    exact ⟨by rintro other ⟨⟩; exact ⟨(s.isLive_iff _).mp takes.1, active⟩, by simp⟩
  · have refused : (s.link (otherSource src)).state = .live → otherSource src ≠ s.page.primary ∧ s.page.fallback = false := fun live => by
      simpa [(s.isLive_iff _).mpr live] using takes
    have cases_src : ∀ other, other = src ∨ other = otherSource src := by cases src <;> rintro ⟨⟩ <;> decide
    have dead_unless : ∀ other, (otherSource src = other → otherSource src = s.page.primary ∨ s.page.fallback = true) →
        (s.link other).state ≠ .live := fun other may live => by
      obtain rfl | rfl := cases_src other
      · exact dead live
      · obtain ⟨other, fallback⟩ := refused live
        obtain h | h := may rfl
        · exact other h
        · rw [fallback] at h; cases h
    exact ⟨by simp, fun _ _ => ⟨dead_unless _ .inl, fun fallback => dead_unless _ fun _ => .inr fallback⟩⟩

/-- A review puts in order a selection that only missed a source to take. -/
theorem selectionInOrder_reviewSelection {s : State}
    (live : ∀ src, s.selected = some src → (s.link src).state = .live ∧ s.profileActive = true) : SelectionInOrder s.reviewSelection := by
  unfold State.reviewSelection
  split_ifs with reviews
  · rw [Bool.and_eq_true] at reviews
    exact (selectionProper_sourceToSelect reviews.1).select
  · refine ⟨live, fun active none => absurd ?_ reviews⟩
    simp [active, none]

/-! ### What every command makes of it -/

theorem SelectionInOrder.acceptFrame {s : State} (h : SelectionInOrder s) (line : Source) (f : List Byte) :
    SelectionInOrder (s.acceptFrame line f) := by
  have arrives : ∀ t arr, SelectionInOrder t → SelectionInOrder (t.arrival arr) := fun t arr ht =>
    ht.congr (by simp) (by simp) (by simp)
  have seen : SelectionInOrder (s.frameSeen line f) := by
    unfold State.frameSeen
    simp only []
    split
    next live =>
      refine h.congr_of_states rfl rfl fun src => ?_
      rw [State.link_setLink]
      split
      next same => subst same; exact live.symm
      next => rfl
    next =>
      refine selectionInOrder_reviewSelection fun src selected => ?_
      obtain ⟨live, active⟩ := h.1 src selected
      refine ⟨?_, active⟩
      rw [State.link_mark, State.link_setLink]
      split
      · rfl
      · exact live
  rw [State.acceptFrame_eq]
  split
  · exact arrives _ _ seen
  · exact seen

theorem SelectionInOrder.staleExpiry {s : State} (h : SelectionInOrder s) (src : Source) : SelectionInOrder (s.staleExpiry src) := by
  unfold State.staleExpiry
  simp only []
  split_ifs with due selected
  · exact h
  · refine (selectionProper_fallbackFrom ?_ ?_).select
    · exact (h.1 src selected).2
    · rw [State.link_mark, State.link_setLink, if_pos rfl]
      simp
  · have other : ∀ src', s.selected = some src' → src' ≠ src := fun src' h' same => selected (by subst same; exact h')
    have dies : ∀ src', (s.link src').state ≠ .live →
        (((s.setLink src { s.link src with state := .stale, staleTimer := none }).mark .sourceState).link src').state ≠ .live := fun src' dead => by
      rw [State.link_mark, State.link_setLink]
      split
      · simp
      · exact dead
    obtain ⟨live, none⟩ := h
    refine ⟨fun src' selected' => ?_, fun active unselected => ?_⟩
    · rw [State.link_mark, State.link_setLink, if_neg (other src' selected')]
      exact live src' selected'
    · obtain ⟨primary, fallback⟩ := none active unselected
      exact ⟨dies _ primary, fun may => dies _ (fallback may)⟩

theorem SelectionInOrder.takeUpProfile {s : State} (h : SelectionInOrder s) : SelectionInOrder s.takeUpProfile := by
  have reviewed : SelectionInOrder s.retabled.reviewSelection := by
    refine selectionInOrder_reviewSelection fun src selected => ⟨?_, s.retabled_active⟩
    rw [State.link_congr (s := s) (by simp)]
    exact (h.1 src (by simpa using selected)).1
  rw [State.takeUpProfile_eq]
  exact reviewed.congr (by simp) (by simp) (by simp)

theorem selectionInOrder_resetBlocks (s : State) (bias : PerSource Channels) (timecode : Timecode) :
    SelectionInOrder (s.resetBlocks bias timecode) :=
  ⟨fun _ selected => (Option.some_ne_none _ selected.symm).elim, fun active => (Bool.false_ne_true active).elim⟩

theorem SelectionInOrder.framePulse {s : State} (h : SelectionInOrder s) : SelectionInOrder s.framePulse := by
  have pulsed : SelectionInOrder s.pulseFrameLost.pulseTimecode := h.congr (by simp) (by simp) (by simp)
  unfold State.framePulse State.captureRecord
  simp only []
  split_ifs
  · exact pulsed
  · exact pulsed.congr (by simp) (by simp) (by simp)
  · exact pulsed.congr_of_states (by simp) (by simp) fun src => by cases src <;> rfl

theorem keptByCommands_selectionInOrder : KeptByCommands SelectionInOrder where
  mark _ _ h := h.congr rfl rfl rfl
  raise := raise_of_report fun _ _ h => h.congr rfl rfl rfl
  clearEvents _ _ h := h.congr rfl rfl rfl
  profileUnit _ _ active h := h.congr active rfl rfl
  offered _ _ h := h.congr rfl rfl rfl
  enqueueWrite _ _ _ _ _ _ _ h := h.congr rfl rfl rfl
  enqueueRead _ _ _ _ _ h := h.congr rfl rfl rfl
  consumer _ _ _ h := h.congr rfl rfl rfl
  recordIntent _ _ _ _ _ _ _ h := h.congr (by simp) (by simp) (by simp)
  start _ _ _ _ _ _ h := h.congr (by simp) (by simp) (by simp)
  stop _ _ _ _ h := h.congr (by simp) (by simp) (by simp)
  park _ _ _ _ h := h.congr (by simp) (by simp) (by simp)
  release _ _ _ _ h := h.congr (by simp) (by simp) (by simp)
  zero _ _ h := h.congr (by simp) (by simp) (by simp)
  excite _ _ h := h.congr (by simp) (by simp) (by simp)
  tcSet _ h := h.congr (by simp) (by simp) (by simp)
  sourceReturn s active live _ :=
    SelectionProper.select ⟨by rintro src ⟨⟩; exact ⟨(s.isLive_iff _).mp live, active⟩, by simp⟩
  takeUp _ _ _ h := h.takeUpProfile
  startUpApply _ _ _ _ _ _ _ _ h := h.takeUpProfile
  pending _ _ h := h.congr rfl rfl rfl
  reset s bias timecode _ _ := selectionInOrder_resetBlocks s bias timecode
  strapsRead _ _ _ h := h.congr rfl rfl rfl
  tick _ h := h.congr_of_states rfl rfl fun src => by cases src <;> rfl
  assembly s line asm h := h.congr_of_states (by simp) (by simp) fun src => by
    rw [State.setAssembly, State.link_setLink]
    split <;> simp_all
  acceptFrame _ line f _ h := h.acceptFrame line f
  staleExpiry _ src h := h.staleExpiry src
  silenceExpiry _ _ h := h.congr (by simp) (by simp) (by simp)
  dwellExpiry _ _ h := h.congr (by simp) (by simp) (by simp)
  deadlineExpiry _ _ h := h.congr (by simp) (by simp) (by simp)
  toggleLamp s h := by
    unfold State.toggleLamp
    split <;> exact h
  settleExpiry _ h := h.congr (by simp) (by simp) (by simp)
  exitHoldExpiry _ h := h.congr (by simp) (by simp) (by simp)
  frameLostExpiry _ h := h.congr (by simp) (by simp) (by simp)
  framePulse _ h := h.framePulse
  headGranted _ _ _ _ _ h := h.congr (by simp) (by simp) (by simp)
  refreshGrant _ h := h.congr (by simp) (by simp) (by simp)
  boostGrant _ h := h.congr (by simp) (by simp) (by simp)
  reportGrant _ h := h.congr (by simp) (by simp) (by simp)
  ringGrant _ h := h.congr (by simp) (by simp) (by simp)
  sweepGrant _ h := h.congr (by simp) (by simp) (by simp)
  writeReady _ h := h.congr (by simp) (by simp) (by simp)
  ringReady _ h := h.congr (by simp) (by simp) (by simp)
  sweepReady _ _ _ _ h := h.congr rfl rfl rfl
  readReady _ _ _ _ _ _ h := h.congr rfl rfl rfl

/-- Settles O53: the selection is reviewed wherever a source becomes LIVE or a profile is taken up, and every change of it judges the source
classes afresh; every other operation leaves the selection, and is a run of operations on axes that leaves the device classes. -/
theorem selectionAndItsClassesStayInOrder : Obligations.SelectionAndItsClassesStayInOrder :=
  ⟨fun _ _ => keptByCommands_selectionInOrder.step, fun _ _ => keptByCommands_sourceClassesInOrder.step⟩

end Sys2Proof.Machine
end

section
/-! The headline under the priority list of an active profile (R141), and what an active profile has passed (R159). -/

namespace Sys2Proof.Machine

/-! ### The priority list -/

theorem FaultClass.ofNumber_eq_some_iff (n : Nat) (c : FaultClass) : FaultClass.ofNumber n = some c ↔ n = c.number := by
  constructor
  · intro h
    unfold FaultClass.ofNumber at h
    split at h <;> simp only [Option.some.injEq, reduceCtorEq] at h <;> subst h <;> rfl
  · rintro rfl
    cases c <;> rfl

theorem FaultClass.mem_all (c : FaultClass) : c ∈ FaultClass.all := by cases c <;> decide

/-- A priority list that passes its test names each class. -/
theorem Page.number_mem_priorityFields {p : Page} (h : p.priorityOk = true) (c : FaultClass) : c.number ∈ p.priorityFields := by
  simp only [Page.priorityOk, List.all_eq_true, List.contains_iff_mem] at h
  exact h _ (by cases c <;> decide)

theorem State.firstActive_eq {s : State} {p : Page} (active : s.profile.active = some p) :
    s.firstActive = (p.priorityFields.find? fun n => (FaultClass.ofNumber n).any s.classActive).bind FaultClass.ofNumber := by
  simp only [State.firstActive, active, Page.priorityList, List.find?_filterMap]

theorem State.firstActive_eq_none_iff {s : State} {p : Page} (active : s.profile.active = some p) (list : p.priorityOk = true) :
    s.firstActive = none ↔ ∀ c ∈ FaultClass.all, s.classActive c = false := by
  have in_list : ∀ c : FaultClass, c ∈ p.priorityList := fun c => by
    rw [Page.priorityList, List.mem_filterMap]
    exact ⟨_, Page.number_mem_priorityFields list c, (FaultClass.ofNumber_eq_some_iff _ c).mpr rfl⟩
  simp [State.firstActive, active, List.find?_eq_none, in_list, FaultClass.mem_all]

/-- The first active class is one before whose place in the list no class is active. -/
theorem State.firstActive_eq_some {s : State} {p : Page} {c : FaultClass} (active : s.profile.active = some p)
    (first : s.firstActive = some c) :
    s.classActive c = true ∧ ∃ before after, p.priorityFields = before ++ c.number :: after ∧
      ∀ d ∈ FaultClass.all, d.number ∈ before → s.classActive d = false := by
  rw [State.firstActive_eq active, Option.bind_eq_some_iff] at first
  obtain ⟨n, found, number⟩ := first
  obtain rfl := (FaultClass.ofNumber_eq_some_iff n c).mp number
  obtain ⟨holds, before, after, fields, earlier⟩ := List.find?_eq_some_iff_append.mp found
  refine ⟨by simpa [number] using holds, before, after, fields, fun d _ hd => ?_⟩
  simpa [(FaultClass.ofNumber_eq_some_iff _ d).mpr rfl] using earlier _ hd

theorem State.patternFor_eq {s : State} {p : Page} (active : s.profile.active = some p) :
    (s.faults.headline = none → s.patternFor = .steady) ∧
      ∀ c, s.faults.headline = some c → s.patternFor = if p.policy c = .continue then .slowBlink else .fastBlink := by
  refine ⟨fun none => ?_, fun c some => ?_⟩
  · simp [State.patternFor, active, none]
  · simp [State.patternFor, active, some]

/-! ### Resets -/

@[simp] theorem State.cutTraffic_busy (s : State) : s.cutTraffic.mport.busy = none := by
  unfold State.cutTraffic
  split
  next idle => exact idle
  next => split <;> rfl

theorem State.resetBlocks_busy (s : State) (bias : PerSource Channels) (timecode : Timecode) :
    (s.resetBlocks bias timecode).mport.busy = none := s.cutTraffic_busy

/-! ### The active profile -/

theorem ProfileTested.congr {s t : State} (h : ProfileTested s) (held : t.resetHeld = s.resetHeld) (strap : t.strapPage = s.strapPage)
    (profile : t.profile.active = s.profile.active) (busy : s.resetHeld = true → s.mport.busy = none → t.mport.busy = none) :
    ProfileTested t := by
  obtain ⟨idle, tested⟩ := h
  refine ⟨fun reset => ?_, by rwa [profile, strap]⟩
  rw [held] at reset
  rw [profile]
  exact ⟨(idle reset).1, busy reset (idle reset).2⟩

/-- What leaves the M-port, the reset and the active profile. -/
theorem ProfileTested.of_frame {s t : State} (h : ProfileTested s) (held : t.resetHeld = s.resetHeld) (strap : t.strapPage = s.strapPage)
    (profile : t.profile.active = s.profile.active) (mport : t.mport = s.mport) : ProfileTested t :=
  h.congr held strap profile fun _ idle => by rw [mport, idle]

/-- What happens only while no reset stands. -/
theorem ProfileTested.of_awake {s t : State} (h : ProfileTested s) (awake : s.resetHeld = false) (held : t.resetHeld = s.resetHeld)
    (strap : t.strapPage = s.strapPage) (profile : t.profile.active = s.profile.active) : ProfileTested t :=
  h.congr held strap profile fun reset => by rw [awake] at reset; cases reset

theorem State.judgeApply_applied {s : State} (h : s.judgeApply.1 = .applied) :
    s.profile.shadow.rangeFault s.strapPage = none ∧ s.profile.shadow.priorityOk = true ∧ s.profile.shadow.policyOk = true ∧
      s.structuralOk s.profile.shadow = true := by
  refine ⟨State.rangeFault_of_judgeApply_applied h, ?_⟩
  unfold State.judgeApply at h
  simp only [State.rangeFault_of_judgeApply_applied h] at h
  split_ifs at h with _ priority policy structural
  exact ⟨by simpa using priority, by simpa using policy, by simpa using structural⟩

theorem State.takeUpProfile_active (s : State) : s.takeUpProfile.profile.active = some s.profile.shadow := by
  rw [State.takeUpProfile_eq]
  simp [State.retabled_profile]

theorem profileTested_takeUpProfile {s : State} (awake : s.resetHeld = false) (applied : s.judgeApply.1 = .applied) :
    ProfileTested s.takeUpProfile := by
  obtain ⟨range, priority, policy, -⟩ := State.judgeApply_applied applied
  refine ⟨fun reset => ?_, fun p active => ?_⟩
  · rw [(State.takeUpProfile_frame s).2.1, awake] at reset
    cases reset
  · rw [State.takeUpProfile_active, Option.some.injEq] at active
    subst active
    rw [(State.takeUpProfile_frame s).2.2.1]
    exact ⟨range, priority, policy⟩

/-- A transaction in progress says that no reset stands. -/
theorem ProfileTested.awake {s : State} (h : ProfileTested s) {t : MTxn} (busy : s.mport.busy = some t) : s.resetHeld = false := by
  by_contra reset
  rw [Bool.not_eq_false] at reset
  rw [(h.1 reset).2] at busy
  cases busy

/-! ### Grants are made of a free port -/

theorem State.portFree_iff (s : State) : s.portFree = true ↔ s.resetHeld = false ∧ s.mport.busy = none := by
  simp [State.portFree]

theorem State.portFree_of_grantsHead {s : State} (h : s.grantsHead = true) : s.portFree = true := by
  simp only [State.grantsHead, Bool.and_eq_true] at h
  obtain ⟨⟨free, -⟩, -⟩ := h
  exact free

theorem State.portFree_of_grantsOwn {s : State} {r : OwnRequest} (h : s.grantsOwn r = true) : s.portFree = true := by
  simp only [State.grantsOwn, Bool.and_eq_true] at h
  obtain ⟨⟨free, -⟩, -⟩ := h
  exact free

/-- The grants of own requests. -/
def OwnRequest.grant : OwnRequest → State → State
  | .refresh => State.grantRefresh
  | .boost => State.grantBoost
  | .report => State.grantReport
  | .ring => State.grantRing
  | .sweep => State.grantSweep

theorem OwnRequest.grant_of_not {r : OwnRequest} {s : State} (h : s.grantsOwn r = false) : r.grant s = s := by
  cases r with
  | refresh => simp [OwnRequest.grant, State.grantRefresh, h]
  | boost => simp [OwnRequest.grant, State.grantBoost, h]
  | report => simp [OwnRequest.grant, State.grantReport, h]
  | ring => simp [OwnRequest.grant, State.grantRing, h]
  | sweep => simp [OwnRequest.grant, State.grantSweep, h]

/-- What an own grant leaves as it was. -/
theorem OwnRequest.grant_frame (r : OwnRequest) (s : State) :
    (r.grant s).pending = s.pending ∧ (r.grant s).resetHeld = s.resetHeld ∧ (r.grant s).strapPage = s.strapPage ∧
    (r.grant s).selected = s.selected ∧ (r.grant s).cport = s.cport ∧ (r.grant s).profile = s.profile ∧ (r.grant s).ram = s.ram := by
  cases r <;> simp [OwnRequest.grant]

theorem ProfileTested.ownGrant {s : State} (h : ProfileTested s) (r : OwnRequest) : ProfileTested (r.grant s) := by
  cases grants : s.grantsOwn r with
  | false => rwa [OwnRequest.grant_of_not grants]
  | true =>
    obtain ⟨-, held, strap, -, -, profile, -⟩ := r.grant_frame s
    exact h.of_awake (s.portFree_iff.mp (State.portFree_of_grantsOwn grants)).1 held strap (by rw [profile])

theorem ProfileTested.completeWrite {s : State} (h : ProfileTested s) : ProfileTested s.completeWrite :=
  h.congr (by simp) (by simp) (by simp) fun _ idle => by simp [State.completeWrite, idle]

theorem ProfileTested.completeRingWord {s : State} (h : ProfileTested s) : ProfileTested s.completeRingWord :=
  h.congr (by simp) (by simp) (by simp) fun _ idle => by simp [State.completeRingWord, idle]

theorem keptByCommands_profileTested : KeptByCommands ProfileTested where
  mark _ _ h := h.of_frame rfl rfl rfl rfl
  raise := raise_of_report fun _ _ h => h.of_frame rfl rfl rfl rfl
  clearEvents _ _ h := h.of_frame rfl rfl rfl rfl
  profileUnit _ _ active h := h.of_frame rfl rfl active rfl
  offered _ _ h := h.of_frame rfl rfl rfl rfl
  enqueueWrite _ _ _ _ _ _ _ h := h.of_frame rfl rfl rfl rfl
  enqueueRead _ _ _ _ _ h := h.of_frame rfl rfl rfl rfl
  consumer _ _ _ h := h.of_frame rfl rfl rfl rfl
  recordIntent _ _ _ _ _ _ _ h := h.of_frame (by simp) (by simp) (by simp) (by simp)
  start _ _ _ _ _ _ h := h.of_frame (by simp) (by simp) (by simp) (by simp)
  stop _ _ _ _ h := h.of_frame (by simp) (by simp) (by simp) (by simp)
  park _ _ _ _ h := h.of_frame (by simp) (by simp) (by simp) (by simp)
  release _ _ _ _ h := h.of_frame (by simp) (by simp) (by simp) (by simp)
  zero _ _ h := h.of_frame (by simp) (by simp) (by simp) (by simp)
  excite _ _ h := h.of_frame (by simp) (by simp) (by simp) (by simp)
  tcSet _ h := h.of_frame (by simp) (by simp) (by simp) (by simp)
  sourceReturn _ _ _ h := h.of_frame (by simp) (by simp) (by simp) (by simp)
  takeUp _ awake applied _ := profileTested_takeUpProfile awake applied
  startUpApply _ _ busy _ h _ held applied _ := profileTested_takeUpProfile (held.trans (h.awake busy)) applied
  pending _ _ h := h.of_frame rfl rfl rfl rfl
  reset s bias timecode _ _ := ⟨fun _ => ⟨rfl, s.resetBlocks_busy bias timecode⟩, fun _ active => by cases active⟩
  strapsRead _ _ reset h := by
    refine ⟨fun awake => (Bool.false_ne_true awake).elim, fun p active => ?_⟩
    rw [(h.1 reset).1] at active
    cases active
  tick _ h := h.of_frame rfl rfl rfl rfl
  assembly _ _ _ h := h.of_frame (by simp) (by simp) (by simp) (by simp)
  acceptFrame _ _ _ _ h := h.of_frame (by simp) (by simp) (by simp) (by simp)
  staleExpiry _ _ h := h.of_frame (by simp) (by simp) (by simp) (by simp)
  silenceExpiry _ _ h := h.of_frame (by simp) (by simp) (by simp) (by simp)
  dwellExpiry _ _ h := h.of_frame (by simp) (by simp) (by simp) (by simp)
  deadlineExpiry _ _ h := h.of_frame (by simp) (by simp) (by simp) (by simp)
  toggleLamp s h := by
    unfold State.toggleLamp
    split <;> exact h
  settleExpiry _ h := h.of_frame (by simp) (by simp) (by simp) (by simp)
  exitHoldExpiry _ h := h.of_frame (by simp) (by simp) (by simp) (by simp)
  frameLostExpiry _ h := h.of_frame (by simp) (by simp) (by simp) (by simp)
  framePulse _ h := h.of_frame (by simp) (by simp) (by simp) (by simp)
  headGranted s _ _ grants _ h :=
    h.of_awake (s.portFree_iff.mp (State.portFree_of_grantsHead grants)).1 (by simp) (by simp) (by simp)
  refreshGrant _ h := h.ownGrant .refresh
  boostGrant _ h := h.ownGrant .boost
  reportGrant _ h := h.ownGrant .report
  ringGrant _ h := h.ownGrant .ring
  sweepGrant _ h := h.ownGrant .sweep
  writeReady _ h := h.completeWrite
  ringReady _ h := h.completeRingWord
  sweepReady _ _ _ _ h := h.congr rfl rfl rfl fun _ _ => rfl
  readReady _ _ _ _ _ _ h := h.congr rfl rfl rfl fun _ _ => rfl

/-- Settles O54: the headline and the pattern are judged afresh wherever a flag, the list or a policy changes, so that they are those of the
first active class; and only an accepted apply makes a profile active, in which the three tests have passed. -/
theorem headlineAndStatFollowTheFlags : Obligations.HeadlineAndStatFollowTheFlags := by
  refine ⟨fun _ _ => keptByCommands_headlineInOrder.step, fun _ _ => keptByCommands_profileTested.step, fun s p order active list => ?_⟩
  obtain ⟨headline, pattern⟩ := order
  obtain ⟨steady, blinks⟩ := State.patternFor_eq active
  refine ⟨?_, fun c some => ?_, fun none => ?_, fun c some => ?_⟩
  · rw [headline, State.firstActive_eq_none_iff active list]
  · exact State.firstActive_eq_some active (headline.symm.trans some)
  · rw [pattern, steady none]
  · rw [pattern, blinks c some]

end Sys2Proof.Machine
end

section
/-! Windows and the regions they keep clear of (R82, R84, R85): what the window tests of an accepted profile say of every address that an INTENT
window matches. -/

namespace Sys2Proof.Machine

/-! ### Masked comparisons -/

/-- Two addresses agree on every bit of a mask. -/
theorem masked_xor_eq_zero_iff (u v mask : Addr) :
    (u ^^^ v) &&& mask = 0 ↔ ∀ i < 18, mask.getLsbD i = true → u.getLsbD i = v.getLsbD i := by
  refine ⟨fun h i hi hm => ?_, fun h => BitVec.eq_of_getLsbD_eq fun i hi => ?_⟩
  · have bit := congrArg (·.getLsbD i) h
    simpa [hm] using bit
  · cases hm : mask.getLsbD i with
    | false => simp [hm]
    | true => simp [hm, h i hi hm]

theorem Window.covers_iff (w : Window) (addr : Addr) :
    w.covers addr = true ↔ w.valid = true ∧ ∀ i < 18, w.mask.getLsbD i = true → addr.getLsbD i = w.base.getLsbD i := by
  rw [Window.covers, Bool.and_eq_true, beq_iff_eq, masked_xor_eq_zero_iff]

/-- Two windows that match one address agree on every bit that both masks have set. -/
theorem Window.meets_of_covers {u v : Window} {addr : Addr} (hu : u.covers addr = true) (hv : v.covers addr = true) :
    u.meets v = true := by
  rw [Window.covers_iff] at hu hv
  rw [Window.meets, beq_iff_eq, masked_xor_eq_zero_iff]
  intro i hi both
  rw [BitVec.getLsbD_and, Bool.and_eq_true] at both
  exact (hu.2 i hi both.1).symm.trans (hv.2 i hi both.2)

/-- The bits that place an address in its page. -/
theorem pageMask_bit {i : Nat} (hi : i < 18) : (0x3FF00#18).getLsbD i = decide (8 ≤ i) := by
  have all : ∀ i : Fin 18, (0x3FF00#18).getLsbD i.val = decide (8 ≤ i.val) := by decide
  exact all ⟨i, hi⟩

theorem addrAt_bit (page : PageNo) (w : Offset) {i : Nat} (hi : 8 ≤ i) : (addrAt page w).getLsbD i = page.getLsbD (i - 8) := by
  rw [addrAt, BitVec.getLsbD_append, if_neg (by omega)]

theorem pageOf_bit (addr : Addr) {i : Nat} (hi : i < 10) : (pageOf addr).getLsbD i = addr.getLsbD (8 + i) := by
  simp [pageOf, hi]

/-- An address of the page agrees with its first address on the page's bits. -/
theorem getLsbD_of_pageOf {addr : Addr} {page : PageNo} (h : pageOf addr = page) {i : Nat} (hi : i < 18) (h8 : 8 ≤ i) :
    addr.getLsbD i = (addrAt page 0).getLsbD i := by
  rw [addrAt_bit page 0 h8, ← h, pageOf_bit addr (by omega)]
  congr 1
  omega

/-- A window that matches an address meets the address's page. -/
theorem Window.meetsPage_of_covers {w : Window} {addr : Addr} (h : w.covers addr = true) : w.meetsPage (pageOf addr) = true := by
  rw [Window.covers_iff] at h
  rw [Window.meetsPage, beq_iff_eq, masked_xor_eq_zero_iff]
  intro i hi both
  rw [BitVec.getLsbD_and, Bool.and_eq_true, pageMask_bit hi, decide_eq_true_iff] at both
  exact (h.2 i hi both.1).symm.trans (getLsbD_of_pageOf rfl hi both.2)

/-- A window that matches an address of the ring region meets the region. -/
theorem Window.meetsRing_of_covers {w : Window} {p : Page} {addr : Addr} (h : w.covers addr = true) (ring : p.inRing addr = true) :
    w.meetsRing p = true := by
  rw [Page.inRing, Bool.and_eq_true, decide_eq_true_iff] at ring
  obtain ⟨has, near⟩ := ring
  rw [Window.meetsRing, has, Bool.true_and, List.any_eq_true]
  refine ⟨(addr - p.ringStart).toNat, ?_, ?_⟩
  · have := (addr - p.ringStart).isLt
    rw [List.mem_range]
    omega
  · rw [BitVec.ofNat_toNat, BitVec.setWidth_eq, BitVec.add_comm, BitVec.sub_add_cancel]
    exact h

/-! ### The window table -/

theorem Page.mem_windows_iff (p : Page) (w : Window) : w ∈ p.windows ↔ ∃ n, p.window n = w := by
  simp only [Page.windows, List.mem_cons, List.not_mem_nil, or_false]
  constructor
  · rintro (rfl | rfl | rfl | rfl | rfl | rfl | rfl | rfl) <;> exact ⟨_, rfl⟩
  · rintro ⟨n, rfl⟩
    fin_cases n <;> simp

/-- No window of a profile is at fault. -/
def Page.WindowsPass (p : Page) (strap : PageNo) : Prop := ∀ n, p.windowAtFault strap n = false

theorem Page.windowsPass_of_rangeFault_eq_none {p : Page} {strap : PageNo} (h : p.rangeFault strap = none) : p.WindowsPass strap := by
  intro n
  have test : (0x20 + 3 * n.val, !p.windowAtFault strap n) ∈ p.rangeTests strap := by
    simp only [Page.rangeTests, Page.windowTests, List.mem_append, List.mem_map]
    exact .inl (.inl (.inl (.inl (.inr ⟨n, List.mem_finRange n, rfl⟩))))
  simpa using Page.all_rangeTests_of_rangeFault_eq_none h _ test

/-- What the tests of an INTENT window say of an address it matches. -/
theorem Page.WindowsPass.of_covers {p : Page} {strap : PageNo} (pass : p.WindowsPass strap) {n : Fin 8} {addr : Addr}
    (kind : (p.window n).kind = .intent) (covers : (p.window n).covers addr = true) :
    (∀ m, (p.window m).kind = .intent → (p.window m).covers addr = true → (p.window m).axis = (p.window n).axis) ∧
      pageOf addr ≠ strap ∧ pageOf addr ≠ reportPageOf strap ∧ p.inRing addr = false ∧ (p.boostEnable = true → addr ≠ p.boostAddr) := by
  have valid := ((p.window n).covers_iff addr).mp covers |>.1
  have fault := pass n
  simp only [Page.windowAtFault, valid, kind, beq_self_eq_true, Bool.true_and, Bool.or_eq_false_iff] at fault
  obtain ⟨⟨⟨⟨others, profile⟩, report⟩, ring⟩, boost⟩ := fault
  refine ⟨fun m kind' covers' => ?_, fun same => ?_, fun same => ?_, ?_, fun enabled same => ?_⟩
  · rw [List.any_eq_false] at others
    have other := others m (List.mem_finRange m)
    have valid' := ((p.window m).covers_iff addr).mp covers' |>.1
    have meets := Window.meets_of_covers covers covers'
    by_contra ne
    exact other (by simp [Window.conflicts, valid', meets, kind', Ne.symm ne])
  · rw [← same, Window.meetsPage_of_covers covers] at profile
    cases profile
  · rw [← same, Window.meetsPage_of_covers covers] at report
    cases report
  · by_contra inside
    rw [Bool.not_eq_false] at inside
    rw [Window.meetsRing_of_covers covers inside] at ring
    cases ring
  · rw [enabled, ← same, covers] at boost
    cases boost

/-- Two profiles whose tables do not differ match the same addresses by INTENT windows of the same axes. -/
theorem window_covers_of_not_tablesDiffer {p q : Page} (h : tablesDiffer p q = false) (n : Fin 8) {addr : Addr} :
    ((p.window n).kind = .intent ∧ (p.window n).covers addr = true) → p.window n = q.window n := by
  have entries : ∀ n, (p.window n).differs (q.window n) = false := by
    simp only [tablesDiffer, Page.windows, List.zipWith, List.any_cons, List.any_nil, id, Bool.or_false, Bool.or_eq_false_iff] at h
    intro n
    fin_cases n <;> simp [h]
  rintro ⟨-, covers⟩
  have valid := ((p.window n).covers_iff addr).mp covers |>.1
  simpa [Window.differs, valid] using entries n

theorem tablesDiffer_symm (p q : Page) : tablesDiffer p q = tablesDiffer q p := by
  have entry : ∀ u v : Window, u.differs v = v.differs u := fun u v => by
    simp only [Window.differs, Bool.or_comm u.valid, ne_comm]
  simp [tablesDiffer, Page.windows, entry (p.window _)]

end Sys2Proof.Machine
end

section
/-! The routes of setpoints (R62, R82, R85, R97, R116, R150): every step keeps the addresses of the axes, of the windows and of the part's own
words apart. -/

namespace Sys2Proof.Machine

/-! ### INTENT windows of a state -/

theorem intentCovers_iff {s : State} {p : Page} (active : s.profile.active = some p) (a : AxisId) (addr : Addr) :
    IntentCovers s a addr ↔ ∃ n, (p.window n).kind = .intent ∧ (p.window n).axis = a ∧ (p.window n).covers addr = true := by
  simp only [IntentCovers, State.table, active, Page.mem_windows_iff]
  constructor
  · rintro ⟨u, ⟨n, rfl⟩, rest⟩
    exact ⟨n, rest⟩
  · rintro ⟨n, rest⟩
    exact ⟨_, ⟨n, rfl⟩, rest⟩

theorem not_intentCovers_of_empty {s : State} (empty : s.profile.active = none) (a : AxisId) (addr : Addr) : ¬ IntentCovers s a addr := by
  simp [IntentCovers, State.table, empty]

theorem intentCovers_congr {s t : State} (profile : t.profile.active = s.profile.active) (a : AxisId) (addr : Addr) :
    IntentCovers t a addr ↔ IntentCovers s a addr := by
  simp [IntentCovers, State.table, profile]

/-- What a transaction's class says of the address. -/
theorem intentCovers_of_classify {s : State} {addr : Addr} {a : AxisId} (h : s.classify addr = .intent a) : IntentCovers s a addr := by
  unfold State.classify at h
  split_ifs at h
  split at h
  next w decided =>
    have found := List.find?_some decided
    unfold Window.txnClass at h
    cases kind : w.kind with
    | guard => simp [kind] at h
    | intent =>
      simp only [kind, TxnClass.intent.injEq] at h
      exact ⟨w, List.mem_of_find?_eq_some decided, kind, h, found⟩
  next => cases h

/-! ### The parts of the invariant -/

/-- The window table keeps the axes apart and clear of the part's own words. -/
structure TableRouted (s : State) : Prop where
  one_axis : ∀ a b addr, IntentCovers s a addr → IntentCovers s b addr → a = b
  clear_of_regions : ∀ a addr, IntentCovers s a addr →
    pageOf addr ≠ s.strapPage ∧ pageOf addr ≠ s.reportPage ∧ s.inRing addr = false ∧
      (s.page.boostEnable = true → addr ≠ s.page.boostAddr)

theorem tableRouted_of_empty {s : State} (empty : s.profile.active = none) : TableRouted s where
  one_axis a _ addr h := absurd h (not_intentCovers_of_empty empty a addr)
  clear_of_regions a addr h := absurd h (not_intentCovers_of_empty empty a addr)

theorem tableRouted_of_windowsPass {s : State} {p : Page} (active : s.profile.active = some p) (pass : p.WindowsPass s.strapPage) :
    TableRouted s where
  one_axis a b addr ha hb := by
    rw [intentCovers_iff active] at ha hb
    obtain ⟨n, kind, rfl, covers⟩ := ha
    obtain ⟨m, kind', rfl, covers'⟩ := hb
    exact ((pass.of_covers kind covers).1 m kind' covers').symm
  clear_of_regions a addr h := by
    rw [intentCovers_iff active] at h
    obtain ⟨n, kind, -, covers⟩ := h
    obtain ⟨-, profile, report, ring, boost⟩ := pass.of_covers kind covers
    refine ⟨profile, report, ?_, ?_⟩
    · simpa [State.inRing, active] using ring
    · simpa [State.page, active] using boost

theorem TableRouted.congr {s t : State} (h : TableRouted s) (strap : t.strapPage = s.strapPage)
    (profile : t.profile.active = s.profile.active) : TableRouted t := by
  obtain ⟨one_axis, clear⟩ := h
  refine ⟨fun a b addr => ?_, fun a addr => ?_⟩
  · simp only [intentCovers_congr profile]
    exact one_axis a b addr
  · simpa only [intentCovers_congr profile, State.reportPage, State.inRing, State.page, strap, profile] using clear a addr

/-- A queued write is bound to no other axis than the one whose INTENT windows match its address. -/
def EntryRouted (s : State) (e : QEntry) : Prop :=
  ∀ addr data lanes a b, e.txn = .write addr data lanes → e.bind = some a → IntentCovers s b addr → b = a

theorem EntryRouted.congr {s t : State} {e : QEntry} (h : EntryRouted s e) (profile : t.profile.active = s.profile.active) :
    EntryRouted t e := fun addr data lanes a b txn bind covers =>
  h addr data lanes a b txn bind ((intentCovers_congr profile b addr).mp covers)

/-- The binding that the table gives a queued write is that of the windows that match it (R97). -/
theorem entryRouted_rebindEntry {s : State} (table : TableRouted s) (e : QEntry) : EntryRouted s (s.rebindEntry e) := by
  intro addr data lanes a b
  cases txn : e.txn with
  | read _ _ => simp [State.rebindEntry, txn]
  | write addr' data' lanes' =>
    simp only [State.rebindEntry, txn]
    cases cls : s.classify addr' with
    | intent a' =>
      simp only [TxnClass.binding, BusTxn.write.injEq, Option.some.injEq]
      rintro ⟨rfl, -, -⟩ rfl covers
      exact table.one_axis _ _ _ covers (intentCovers_of_classify cls)
    | guard _ | unmatched => simp [TxnClass.binding]
    | profileWord w =>
      simp only [txn, BusTxn.write.injEq]
      rintro ⟨rfl, -, -⟩ - covers
      obtain ⟨profile, -⟩ := table.clear_of_regions _ _ covers
      simp [State.classify, profile] at cls
      split_ifs at cls
      split at cls
      next w _ => unfold Window.txnClass at cls; split at cls <;> cases cls
      next => cases cls
    | reportWord w =>
      simp only [txn, BusTxn.write.injEq]
      rintro ⟨rfl, -, -⟩ - covers
      obtain ⟨profile, report, -⟩ := table.clear_of_regions _ _ covers
      simp [State.classify, profile, report] at cls
      split_ifs at cls
      split at cls
      next w _ => unfold Window.txnClass at cls; split at cls <;> cases cls
      next => cases cls
    | ringWord =>
      simp only [txn, BusTxn.write.injEq]
      rintro ⟨rfl, -, -⟩ - covers
      obtain ⟨profile, report, ring, -⟩ := table.clear_of_regions _ _ covers
      simp [State.classify, profile, report, ring] at cls
      split at cls
      next w _ => unfold Window.txnClass at cls; split at cls <;> cases cls
      next => cases cls

end Sys2Proof.Machine
end

section
/-! What the operations that compose nothing keep of an axis's record (R70, R71, R133 to R136): a hold, an expiry, a refresh granted or cancelled
and the judgment of the source classes take no axis into or out of OFF, and leave its output, its output address and its intent-valid. -/

namespace Sys2Proof.Machine

/-- What an operation that composes nothing keeps of an axis's record. -/
structure AxisKept (ax ax' : Axis) : Prop where
  outAddr : ax'.outAddr = ax.outAddr
  intentValid : ax'.intentValid = ax.intentValid
  output : ax'.output = ax.output
  shown : ax'.correction = ax.correction ∧ ax'.rate = ax.rate ∧ ax'.limit = ax.limit
  off_iff : ax'.state = .off ↔ ax.state = .off
  held : ax.state = .held → ax'.state = .held
  pending : ax'.refreshPending = true → ax.refreshPending = true
  caused : (ax.state = .held ↔ ax.causes ≠ .empty) → (ax'.state = .held ↔ ax'.causes ≠ .empty)

theorem AxisKept.refl (ax : Axis) : AxisKept ax ax := ⟨rfl, rfl, rfl, ⟨rfl, rfl, rfl⟩, Iff.rfl, id, id, id⟩

theorem AxisKept.trans {ax ax' ax'' : Axis} (h : AxisKept ax ax') (k : AxisKept ax' ax'') : AxisKept ax ax'' where
  outAddr := k.outAddr.trans h.outAddr
  intentValid := k.intentValid.trans h.intentValid
  output := k.output.trans h.output
  shown := ⟨k.shown.1.trans h.shown.1, k.shown.2.1.trans h.shown.2.1, k.shown.2.2.trans h.shown.2.2⟩
  off_iff := k.off_iff.trans h.off_iff
  held := k.held ∘ h.held
  pending := h.pending ∘ k.pending
  caused := k.caused ∘ h.caused

/-- A record with other timers, flags or refresh count. -/
theorem AxisKept.of_eq {ax ax' : Axis} (outAddr : ax'.outAddr = ax.outAddr) (intentValid : ax'.intentValid = ax.intentValid)
    (output : ax'.output = ax.output) (shown : ax'.correction = ax.correction ∧ ax'.rate = ax.rate ∧ ax'.limit = ax.limit)
    (state : ax'.state = ax.state) (pending : ax'.refreshPending = ax.refreshPending) (causes : ax'.causes = ax.causes) : AxisKept ax ax' :=
  ⟨outAddr, intentValid, output, shown, by rw [state], by rw [state]; exact id, by rw [pending]; exact id, by rw [state, causes]; exact id⟩

/-! ### Holds -/

theorem Causes.add_ne_empty (cs : Causes) (c : Cause) : cs.add c ≠ .empty := by cases c <;> simp [Causes.add, Causes.empty]

theorem axisKept_heldBy (c : Cause) (ax : Axis) : AxisKept ax (heldBy c ax) := by
  unfold heldBy
  cases state : ax.state with
  | off => exact .refl ax
  | held => exact ⟨rfl, rfl, rfl, ⟨rfl, rfl, rfl⟩, by simp [state], fun _ => rfl, id, fun _ => by simp [Causes.add_ne_empty]⟩
  | stabilising | coasting =>
    exact ⟨rfl, rfl, rfl, ⟨rfl, rfl, rfl⟩, by simp [state], by simp, by simp, fun _ => by simp [Causes.add_ne_empty]⟩

theorem axisKept_sourceHolds (s : State) (p : Page) (new : Option Source) (ax : Axis) : AxisKept ax (sourceHolds s p new ax) := by
  unfold sourceHolds
  split_ifs
  · exact axisKept_heldBy _ ax
  · exact axisKept_heldBy _ ax
  · exact .refl ax

theorem axisKept_heldUnder (po : Policy) (c : Cause) (a b : AxisId) (ax : Axis) : AxisKept ax (heldUnder po c a b ax) := by
  unfold heldUnder
  cases po with
  | holdAll => exact axisKept_heldBy c ax
  | holdAxis =>
    simp only []
    split
    · exact axisKept_heldBy c ax
    · exact .refl ax
  | _ => exact .refl ax

theorem axisKept_withClass (ax : Axis) (c : AxisClass) (on : Bool) : AxisKept ax (ax.withClass c on) := by
  cases c <;> exact .of_eq rfl rfl rfl ⟨rfl, rfl, rfl⟩ rfl rfl rfl

theorem axisKept_tick (ax : Axis) : AxisKept ax ax.tick := .of_eq rfl rfl rfl ⟨rfl, rfl, rfl⟩ rfl rfl rfl

/-- CONTROLLER_SILENT under CONTINUE (R67). -/
theorem axisKept_coasting {ax : Axis} (state : ax.state = .stabilising) : AxisKept ax { ax with state := .coasting } :=
  ⟨rfl, rfl, rfl, ⟨rfl, rfl, rfl⟩, by simp [state], by simp [state], id, by simp [state]⟩

/-! ### Runs -/

/-- Every axis's record is kept. -/
def KeptRun (s t : State) : Prop := ∀ a, AxisKept (s.axis a) (t.axis a)

theorem KeptRun.refl (s : State) : KeptRun s s := fun _ => .refl _

theorem KeptRun.comp {s t u : State} (k : KeptRun t u) (h : KeptRun s t) : KeptRun s u := fun a => (h a).trans (k a)

theorem KeptRun.of_axes_eq {s t : State} (axes : t.axes = s.axes) : KeptRun s t := fun a => by rw [State.axis_congr axes]; exact .refl _

theorem keptRun_setAxis {s : State} {a : AxisId} {ax : Axis} (h : AxisKept (s.axis a) ax) : KeptRun s (s.setAxis a ax) := fun b => by
  rw [State.axis_setAxis]
  split
  next same => subst same; exact h
  next => exact .refl _

/-- What a run under an ACTIVE profile makes of the records, by an equation for each. -/
theorem KeptRun.of_axis {s t : State} {f : AxisId → Axis} (axis : ∀ b, t.axis b = f b) (kept : ∀ b, AxisKept (s.axis b) (f b)) : KeptRun s t :=
  fun b => by rw [axis]; exact kept b

theorem keptRun_setAxisFlag (s : State) (c : AxisClass) (a : AxisId) (on : Bool) : KeptRun s (s.setAxisFlag c a on) := by
  cases active : s.profileActive with
  | true =>
    refine .of_axis (State.axis_setAxisFlag active c a on) fun b => ?_
    split
    next same => subst same; exact axisKept_withClass _ c on
    next => exact .refl _
  | false =>
    have same : s.setAxisFlag c a on = s := by simp [State.setAxisFlag, active]
    rw [same]; exact .refl s

theorem keptRun_clearRefresh (s : State) (a : AxisId) : KeptRun s (s.clearRefresh a) :=
  .comp (keptRun_setAxisFlag _ _ _ _) <| keptRun_setAxis ⟨rfl, rfl, rfl, ⟨rfl, rfl, rfl⟩, Iff.rfl, id, by simp, id⟩

theorem keptRun_hold {s : State} (active : s.profileActive = true) (a : AxisId) (c : Cause) : KeptRun s (s.hold a c) :=
  .of_axis (State.axis_hold active a c) fun b => by
    split
    next same => subst same; exact axisKept_heldBy c _
    next => exact .refl _

theorem keptRun_applyAxisPolicy {s : State} (active : s.profileActive = true) (c : AxisClass) (a : AxisId) :
    KeptRun s (s.applyAxisPolicy c a) :=
  .of_axis (State.axis_applyAxisPolicy active c a) fun b => axisKept_heldUnder _ _ a b _

theorem keptRun_activate (s : State) (c : AxisClass) (a : AxisId) : KeptRun s (s.activate c a) := by
  unfold State.activate
  split
  next => exact .refl s
  next acts =>
    have active : s.profileActive = true := by simp only [Bool.or_eq_true, not_or] at acts; simpa using acts.1
    exact .comp (keptRun_applyAxisPolicy (by simpa using active) c a) (keptRun_setAxisFlag s c a true)

theorem keptRun_silenceExpiry (s : State) (a : AxisId) : KeptRun s (s.silenceExpiry a) := by
  have stopped : KeptRun s (s.setAxis a { s.axis a with silenceTimer := none }) :=
    keptRun_setAxis (.of_eq rfl rfl rfl ⟨rfl, rfl, rfl⟩ rfl rfl rfl)
  have flagged := (keptRun_setAxisFlag _ .controllerSilent a true).comp stopped
  unfold State.silenceExpiry
  simp only []
  split
  · exact .refl s
  split
  · exact stopped
  next empty =>
    have active : ((s.setAxis a { s.axis a with silenceTimer := none }).setAxisFlag .controllerSilent a true).profileActive = true := by
      simpa using empty
    split
    · split
      next stabilising =>
        refine .comp (.of_axis (State.axis_setAxisState _ a .coasting) fun b => ?_) flagged
        split
        next same => subst same; exact axisKept_coasting stabilising
        next => exact .refl _
      next => exact flagged
    all_goals exact .comp (keptRun_applyAxisPolicy active _ _) flagged

theorem keptRun_dwellExpiry (s : State) (a : AxisId) : KeptRun s (s.dwellExpiry a) := by
  unfold State.dwellExpiry
  split
  · exact .refl s
  · exact .comp (keptRun_activate _ _ a) (keptRun_setAxis (.of_eq rfl rfl rfl ⟨rfl, rfl, rfl⟩ rfl rfl rfl))

theorem keptRun_deadlineExpiry (s : State) (a : AxisId) : KeptRun s (s.deadlineExpiry a) := by
  have stopped : KeptRun s (s.setAxis a { s.axis a with deadlineTimer := none }) :=
    keptRun_setAxis (.of_eq rfl rfl rfl ⟨rfl, rfl, rfl⟩ rfl rfl rfl)
  unfold State.deadlineExpiry
  simp only []
  split_ifs
  · exact .refl s
  · exact .comp (keptRun_activate _ _ a) stopped
  · exact stopped

theorem keptRun_judgeSources (s : State) : KeptRun s s.judgeSources := by
  cases active : s.profileActive with
  | true => exact .of_axis (State.axis_judgeSources active) fun b => axisKept_sourceHolds s _ _ _
  | false => rw [State.judgeSources_of_empty active]; exact .refl s

theorem keptRun_select (s : State) (new : Option Source) : KeptRun s (s.select new) := by
  by_cases same : s.selected = new
  · subst same; rw [State.select_same]; exact .refl s
  · rw [State.select_of_ne same]
    exact .comp (keptRun_judgeSources _) (.of_axes_eq (by simp))

theorem keptRun_reviewSelection (s : State) : KeptRun s s.reviewSelection := by
  unfold State.reviewSelection
  split
  · exact keptRun_select s _
  · exact .refl s

theorem keptRun_frameSeen (s : State) (line : Source) (f : List Byte) : KeptRun s (s.frameSeen line f) := by
  unfold State.frameSeen
  simp only []
  split
  · exact .of_axes_eq (by simp)
  · exact .comp (keptRun_reviewSelection _) (.of_axes_eq (by simp))

theorem keptRun_staleExpiry (s : State) (src : Source) : KeptRun s (s.staleExpiry src) := by
  unfold State.staleExpiry
  simp only []
  split_ifs
  · exact .refl s
  · exact .comp (keptRun_select _ _) (.of_axes_eq (by simp))
  · exact .of_axes_eq (by simp)

theorem keptRun_takeUpFaults (s : State) (old : Option Page) : KeptRun s (s.takeUpFaults old) := by
  unfold State.takeUpFaults
  simp only []
  split
  · exact .comp (.of_axes_eq (by simp)) (keptRun_judgeSources s)
  · exact .comp (.of_axes_eq (by simp)) (keptRun_judgeSources s)

theorem keptRun_tick (s : State) : KeptRun s s.tick := .of_axis s.axis_tick fun _ => axisKept_tick _

theorem keptRun_grantEntry (s : State) (e : QEntry) (rest : List QEntry) : KeptRun s (s.grantEntry e rest) := by
  unfold State.grantEntry
  simp only []
  split
  · exact .comp (keptRun_clearRefresh _ _) (.of_axes_eq rfl)
  · exact .of_axes_eq rfl

theorem keptRun_grantRefresh (s : State) : KeptRun s s.grantRefresh := by
  unfold State.grantRefresh
  (repeat' split)
  · exact .refl s
  · exact .comp (keptRun_clearRefresh _ _) (.of_axes_eq (by simp))
  · exact .refl s

end Sys2Proof.Machine
end

section
/-! The parts of `RoutesInOrder`: the axes, the boost and the ring, each with what the operations make of it. -/

namespace Sys2Proof.Machine

/-! ### Axes (R54, R62, R64, R91) -/

/-- An axis's output address is matched by its INTENT windows, and is set wherever a setpoint of the axis may be written. -/
structure AxisRouted (s : State) (a : AxisId) (ax : Axis) : Prop where
  matched : ∀ addr, ax.outAddr = some addr → IntentCovers s a addr
  set : ax.intentValid = true ∨ ax.state ≠ .off ∨ ax.refreshPending = true → ax.outAddr ≠ none
  pending : ax.refreshPending = true → ax.state ≠ .off
  active : ax.state ≠ .off → s.profileActive = true

theorem AxisRouted.congr {s t : State} {a : AxisId} {ax : Axis} (h : AxisRouted s a ax) (profile : t.profile.active = s.profile.active) :
    AxisRouted t a ax where
  matched addr out := (intentCovers_congr profile a addr).mpr (h.matched addr out)
  set := h.set
  pending := h.pending
  active on := (State.profileActive_congr profile).trans (h.active on)

theorem AxisRouted.kept {s : State} {a : AxisId} {ax ax' : Axis} (h : AxisRouted s a ax) (k : AxisKept ax ax') : AxisRouted s a ax' where
  matched addr out := h.matched addr (by rw [← k.outAddr, out])
  set on := by
    rw [k.outAddr]
    rw [k.intentValid] at on
    exact h.set (on.imp id (Or.imp (mt k.off_iff.mpr) k.pending))
  pending p := mt k.off_iff.mp (h.pending (k.pending p))
  active on := h.active (mt k.off_iff.mpr on)

/-- Only a record's route and state matter. -/
theorem AxisRouted.of_eq {s : State} {a : AxisId} {ax ax' : Axis} (h : AxisRouted s a ax) (outAddr : ax'.outAddr = ax.outAddr)
    (intentValid : ax'.intentValid = ax.intentValid) (state : ax'.state = ax.state) (pending : ax'.refreshPending = ax.refreshPending) :
    AxisRouted s a ax' where
  matched := by rw [outAddr]; exact h.matched
  set := by rw [outAddr, intentValid, state, pending]; exact h.set
  pending := by rw [state, pending]; exact h.pending
  active := by rw [state]; exact h.active

/-- A refresh is marked only of an active axis, which has an output address. -/
theorem AxisRouted.refreshMarked {s : State} {a : AxisId} {ax : Axis} (h : AxisRouted s a ax) (on : ax.state ≠ .off) :
    AxisRouted s a (refreshMarked ax) := by
  unfold Machine.refreshMarked
  split
  · exact h
  · exact ⟨h.matched, fun _ => h.set (.inr (.inl on)), fun _ => on, h.active⟩

theorem AxisRouted.composedAxis {s : State} {a : AxisId} {ax : Axis} (h : AxisRouted s a ax) (p : Page) (sev : SeverityState) (x : Int) :
    AxisRouted s a (composedAxis p a sev x ax) := h.of_eq rfl rfl rfl rfl

theorem AxisRouted.arrivalCounted {s : State} {a : AxisId} {ax : Axis} (h : AxisRouted s a ax) (on : ax.state ≠ .off) (divider : Nat) :
    AxisRouted s a (arrivalCounted divider ax) := by
  unfold Machine.arrivalCounted
  split
  · have counted : AxisRouted s a { ax with refreshCount := 0 } := h.of_eq rfl rfl rfl rfl
    exact counted.refreshMarked on
  · exact h.of_eq rfl rfl rfl rfl

theorem AxisState.ne_off_of_composes {st : AxisState} (h : st.composes = true) : st ≠ .off := by rintro rfl; cases h

theorem AxisRouted.arrived {s : State} {a : AxisId} {ax : Axis} (h : AxisRouted s a ax) (p : Page) (sev : SeverityState) (x : Int)
    (arr : Arrival) (d : Int) : AxisRouted s a (composedAndCounted p a sev x (integratedAxis s arr d a ax)) := by
  have integrated : AxisRouted s a (integratedAxis s arr d a ax) := by
    unfold integratedAxis
    split
    · exact h.of_eq rfl rfl rfl rfl
    · exact h
  unfold composedAndCounted
  split
  next composes => exact (integrated.composedAxis p sev x).arrivalCounted (AxisState.ne_off_of_composes composes) _
  next => exact integrated

theorem AxisRouted.started {s : State} {a : AxisId} {ax : Axis} (h : AxisRouted s a ax) (active : s.profileActive = true)
    (valid : ax.intentValid = true) (p : Page) :
    AxisRouted s a { Machine.refreshMarked (startedAxis p a ax) with state := .stabilising } := by
  have out : ax.outAddr ≠ none := h.set (.inl valid)
  unfold Machine.refreshMarked
  split <;> exact ⟨h.matched, fun _ => out, fun _ => by simp, fun _ => active⟩

theorem AxisRouted.stopped {s : State} {a : AxisId} {ax : Axis} (h : AxisRouted s a ax) : AxisRouted s a (stoppedAxis ax) where
  matched := h.matched
  set on := h.set (on.imp id (by simp [stoppedAxis]))
  pending := by simp [stoppedAxis]
  active := by simp [stoppedAxis]

theorem AxisRouted.released {s : State} {a : AxisId} {ax : Axis} (h : AxisRouted s a ax) (held : ax.state = .held) (p : Page)
    (sev : SeverityState) (x : Int) :
    AxisRouted s a (Machine.refreshMarked (Machine.composedAxis p a sev x { releasedAxis p a ax with state := .stabilising })) := by
  have on : ax.state ≠ .off := by simp [held]
  have resumed : AxisRouted s a { releasedAxis p a ax with state := .stabilising } :=
    ⟨h.matched, fun _ => h.set (.inr (.inl on)), fun _ => by simp, fun _ => h.active on⟩
  exact (resumed.composedAxis p sev x).refreshMarked (by simp [Machine.composedAxis])

theorem AxisRouted.recorded {s : State} {a : AxisId} {ax : Axis} {addr : Addr} (h : AxisRouted s a ax) (covers : IntentCovers s a addr)
    (data : Word) (lanes : Lanes) : AxisRouted s a (recordedAxis ax addr data lanes) where
  matched := by rintro _ ⟨⟩; exact covers
  set _ := by simp [recordedAxis]
  pending := h.pending
  active := h.active

/-- The record of a STABILISING or COASTING axis after an intent write. -/
theorem AxisRouted.resumed {s : State} {a : AxisId} {ax : Axis} (h : AxisRouted s a ax) (composes : ax.state.composes = true)
    (timer : Timer) : AxisRouted s a { ax with state := .stabilising, silenceTimer := timer } :=
  ⟨h.matched, fun _ => h.set (.inr (.inl (AxisState.ne_off_of_composes composes))), fun _ => by simp,
    fun _ => h.active (AxisState.ne_off_of_composes composes)⟩

/-! ### The boost (R116, R117) -/

/-- A boost value is held only while the boost is enabled. -/
def BoostInOrder (s : State) : Prop := s.severity.boostHeld ≠ none → s.page.boostEnable = true

theorem BoostInOrder.congr {s t : State} (h : BoostInOrder s) (held : t.severity.boostHeld = s.severity.boostHeld) (page : t.page = s.page) :
    BoostInOrder t := by rw [BoostInOrder, held, page]; exact h

theorem BoostInOrder.of_severity {s t : State} (h : BoostInOrder s) (severity : t.severity = s.severity) (page : t.page = s.page) :
    BoostInOrder t := h.congr (by rw [severity]) page

theorem BoostInOrder.holdBoost {s : State} (h : BoostInOrder s) (v : Word) : BoostInOrder (s.holdBoost v) := by
  unfold State.holdBoost
  split
  next enabled => exact fun _ => enabled
  next => exact h

theorem BoostInOrder.setSeverity {s : State} (h : BoostInOrder s) (st : SeverityState) : BoostInOrder (s.setSeverity st) := h.congr rfl rfl

theorem BoostInOrder.startEasing {s : State} (h : BoostInOrder s) : BoostInOrder s.startEasing := h.congr rfl rfl

theorem BoostInOrder.settle {s : State} (h : BoostInOrder s) : BoostInOrder s.settle := by
  unfold State.settle
  simp only []
  split
  · exact BoostInOrder.startEasing (h.congr rfl rfl)
  · exact h.congr rfl rfl

theorem BoostInOrder.enterBoosting {s : State} (h : BoostInOrder s) : BoostInOrder s.enterBoosting := by
  have boosted : BoostInOrder ((({ s with severity := { s.severity with settleTimer := some s.page.settleMs } }.holdBoost
      s.page.boostActive).setSeverity .boosting).raise .severityEnter) := by
    have started : BoostInOrder { s with severity := { s.severity with settleTimer := some s.page.settleMs } } := h.congr rfl rfl
    exact ((started.holdBoost s.page.boostActive).setSeverity .boosting).of_severity (by simp) (by simp)
  unfold State.enterBoosting
  simp only []
  split
  · exact boosted.settle
  · exact boosted

theorem BoostInOrder.updateLevel {s : State} (h : BoostInOrder s) (d : AxisId → Int) : BoostInOrder (s.updateLevel d) := by
  have judged : ∀ t, BoostInOrder t → BoostInOrder t.judgeSeverity := fun t ht => by
    unfold State.judgeSeverity
    (repeat' split)
    · exact ht.enterBoosting
    · exact ht
    · exact ht
    · exact ht.startEasing
    · exact ht
    · exact ht
    · exact ht.congr rfl rfl
  have counted : BoostInOrder { s with severity := { s.severity with level := nextLevel (isRough s.page d) s.severity.level } } :=
    h.congr rfl rfl
  exact judged _ (counted.of_severity (by simp) (by simp))

theorem BoostInOrder.arrival {s : State} (h : BoostInOrder s) (arr : Arrival) : BoostInOrder (s.arrival arr) := by
  have composed : BoostInOrder (forAxes (fun a t => t.arrivalAt a)
      (forAxes (fun a t => t.integrateAxis arr (s.axisRate arr a) a) s)).burstStep := h.of_severity (by simp [forAxes]) (by simp [forAxes])
  exact (composed.updateLevel (s.axisRate arr)).of_severity (by simp [State.arrival]) (by simp [State.arrival])

theorem BoostInOrder.acceptFrame {s : State} (h : BoostInOrder s) (line : Source) (f : List Byte) : BoostInOrder (s.acceptFrame line f) := by
  have seen : BoostInOrder (s.frameSeen line f) := by
    unfold State.frameSeen
    simp only []
    split
    · exact h.of_severity rfl rfl
    · exact h.of_severity (by simp) (by simp)
  rw [State.acceptFrame_eq]
  split
  · exact seen.arrival _
  · exact seen

theorem BoostInOrder.settleExpiry {s : State} (h : BoostInOrder s) : BoostInOrder s.settleExpiry := by
  unfold State.settleExpiry
  (repeat' split)
  · exact h.settle
  all_goals exact h

theorem BoostInOrder.exitHoldExpiry {s : State} (h : BoostInOrder s) : BoostInOrder s.exitHoldExpiry := by
  have stopped : BoostInOrder { s with severity := { s.severity with exitHoldTimer := none } } := h.congr rfl rfl
  unfold State.exitHoldExpiry
  (repeat' split)
  · exact ((stopped.holdBoost s.page.boostNormal).setSeverity .calm).of_severity (by simp) (by simp)
  all_goals exact h

/-- A profile without the boost drops a held value. -/
theorem boostInOrder_takeUpBoost (s : State) (old : Option Page) : BoostInOrder (s.takeUpBoost old) := by
  unfold State.takeUpBoost
  split_ifs with disabled same
  · exact fun held => (held rfl).elim
  · exact fun _ => by simpa using disabled
  · have enabled : s.page.boostEnable = true := by simpa using disabled
    intro _
    simpa using enabled

/-! ### The ring (R150 to R154) -/

/-- A staged record has its slot in an enabled ring, and so has the next. -/
def RingRouted (s : State) : Prop :=
  (s.ring.staged ≠ none → s.ringEnabled = true ∧ s.ring.slot < s.ringN) ∧ (s.ringEnabled = true → s.ring.producer < s.ringN)

theorem State.ringEnabled_iff (s : State) :
    s.ringEnabled = true ↔ s.profileActive = true ∧ s.page.ringEnable = true ∧ 2 ≤ s.ringN ∧ s.ringN ≤ 80 := by
  simp [State.ringEnabled, and_assoc]

theorem State.ringEnabled_congr {s t : State} (profile : t.profile.active = s.profile.active) : t.ringEnabled = s.ringEnabled := by
  rw [State.ringEnabled, State.ringEnabled, State.ringN, State.ringN, State.profileActive_congr profile, State.page_congr profile]

theorem RingRouted.congr {s t : State} (h : RingRouted s) (profile : t.profile.active = s.profile.active)
    (staged : t.ring.staged ≠ none → s.ring.staged ≠ none) (slot : t.ring.slot = s.ring.slot) (producer : t.ring.producer = s.ring.producer) :
    RingRouted t := by
  obtain ⟨record, next⟩ := h
  simp only [RingRouted, State.ringEnabled_congr profile, State.ringN, State.page_congr profile, slot, producer]
  exact ⟨fun some => record (staged some), next⟩

theorem RingRouted.of_ring {s t : State} (h : RingRouted s) (profile : t.profile.active = s.profile.active) (ring : t.ring = s.ring) :
    RingRouted t := h.congr profile (by rw [ring]; exact id) (by rw [ring]) (by rw [ring])

theorem State.nextProducer_lt {s : State} (enabled : s.ringEnabled = true) : s.nextProducer < s.ringN := by
  obtain ⟨-, -, two, -⟩ := s.ringEnabled_iff.mp enabled
  exact Nat.mod_lt _ (by omega)

theorem RingRouted.captureRecord {s : State} (h : RingRouted s) : RingRouted s.captureRecord := by
  unfold State.captureRecord
  split_ifs with disabled busy
  · exact h
  · exact h.of_ring (by simp) (by simp)
  · have enabled : s.ringEnabled = true := by simpa using disabled
    exact ⟨fun _ => ⟨enabled, h.2 enabled⟩, fun _ => h.2 enabled⟩

theorem State.publish_ring (s : State) : s.publish.ring = { s.ring with producer := s.nextProducer, staged := none } := by
  simp [State.publish]

theorem ringRouted_publish (s : State) : RingRouted s.publish := by
  have enabled_iff : s.publish.ringEnabled = s.ringEnabled := State.ringEnabled_congr (by simp)
  have length : s.publish.ringN = s.ringN := by simp [State.ringN]
  rw [RingRouted, enabled_iff, length, State.publish_ring]
  exact ⟨fun staged => (staged rfl).elim, State.nextProducer_lt⟩

theorem RingRouted.completeRingWord {s : State} (h : RingRouted s) : RingRouted s.completeRingWord := by
  have written : ∀ t : State, RingRouted t → RingRouted t.ringWordWritten := fun t ht => by
    unfold State.ringWordWritten
    simp only []
    split_ifs
    · exact ht
    · exact ringRouted_publish _
    · exact ht.congr rfl id rfl rfl
  unfold State.completeRingWord
  (repeat' split)
  · exact h
  · exact written _ (h.of_ring (by simp) (by simp))
  · exact h.of_ring (by simp) (by simp)
  all_goals exact h

/-- A ring that an accepted apply leaves has its settings; one it restarts is empty. -/
theorem ringRouted_takeUpRing {s : State} {old : Option Page}
    (before : ∀ p, old = some p → p.ringSettings = s.page.ringSettings → RingRouted s) : RingRouted (s.takeUpRing old) := by
  unfold State.takeUpRing
  split
  next same =>
    rw [Option.map_eq_some_iff] at same
    obtain ⟨p, some, settings⟩ := same
    exact before p some settings
  next =>
    refine ⟨fun staged => ?_, fun enabled => ?_⟩
    · simp [State.restartRing] at staged
    · obtain ⟨-, -, two, -⟩ := State.ringEnabled_iff _ |>.mp enabled
      simp only [State.restartRing, State.mark_frame]
      exact lt_of_lt_of_le (by decide) two

end Sys2Proof.Machine
end

section
/-! Every step keeps the routes in order: an operation moves an axis's record, the queue, the boost or the ring, each as its part of the
condition allows; an accepted apply whose window table differs finds every axis OFF, so that no setpoint needs the addresses it unsets. -/

namespace Sys2Proof.Machine

theorem RoutesInOrder.table {s : State} (h : RoutesInOrder s) : TableRouted s := ⟨h.one_axis, h.clear_of_regions⟩

theorem RoutesInOrder.entry {s : State} (h : RoutesInOrder s) {e : QEntry} (he : e ∈ s.cport.queue) : EntryRouted s e :=
  h.bound_to_match e he

theorem RoutesInOrder.axis {s : State} (h : RoutesInOrder s) (a : AxisId) : AxisRouted s a (s.axis a) :=
  ⟨h.address_matched a, h.address_set a, (h.refresh_active a).1, (h.refresh_active a).2⟩

theorem routesInOrder_of_parts {s : State} (table : TableRouted s) (queue : ∀ e ∈ s.cport.queue, EntryRouted s e)
    (axes : ∀ a, AxisRouted s a (s.axis a)) (boost : BoostInOrder s) (ring : RingRouted s)
    (reset : s.resetHeld = true → s.profile.active = none ∧ s.mport.busy = none) : RoutesInOrder s where
  one_axis := table.one_axis
  clear_of_regions := table.clear_of_regions
  bound_to_match := queue
  address_matched a := (axes a).matched
  address_set a := (axes a).set
  refresh_active a := ⟨(axes a).pending, (axes a).active⟩
  boost_enabled := boost
  slot_in_ring := ring
  reset_idle := reset

/-- An operation that leaves the profile and the straps: what is left to say of the parts. -/
theorem RoutesInOrder.update {s t : State} (h : RoutesInOrder s) (held : t.resetHeld = s.resetHeld) (strap : t.strapPage = s.strapPage)
    (profile : t.profile.active = s.profile.active) (queue : ∀ e ∈ t.cport.queue, EntryRouted s e)
    (axes : ∀ a, AxisRouted s a (t.axis a)) (boost : BoostInOrder t) (ring : RingRouted t)
    (idle : s.resetHeld = true → s.mport.busy = none → t.mport.busy = none) : RoutesInOrder t := by
  refine routesInOrder_of_parts (h.table.congr strap profile) (fun e he => (queue e he).congr profile) (fun a => (axes a).congr profile)
    boost ring fun reset => ?_
  rw [held] at reset
  rw [profile]
  exact ⟨(h.reset_idle reset).1, idle reset (h.reset_idle reset).2⟩

/-- An operation on axes alone. -/
theorem RoutesInOrder.of_axes {s t : State} (h : RoutesInOrder s) (held : t.resetHeld = s.resetHeld) (strap : t.strapPage = s.strapPage)
    (profile : t.profile = s.profile) (cport : t.cport = s.cport) (mport : t.mport = s.mport) (boost : BoostInOrder t)
    (ring : t.ring = s.ring) (axes : ∀ a, AxisRouted s a (t.axis a)) : RoutesInOrder t :=
  h.update held strap (by rw [profile]) (fun e he => h.entry (by rwa [cport] at he)) axes boost
    (RingRouted.of_ring h.slot_in_ring (by rw [profile]) ring) fun _ idle => by rw [mport, idle]

/-- An operation on axes that composes nothing. -/
theorem RoutesInOrder.kept {s t : State} (h : RoutesInOrder s) (run : KeptRun s t) (held : t.resetHeld = s.resetHeld)
    (strap : t.strapPage = s.strapPage) (profile : t.profile = s.profile) (cport : t.cport = s.cport) (mport : t.mport = s.mport)
    (severity : t.severity = s.severity) (ring : t.ring = s.ring) : RoutesInOrder t :=
  h.of_axes held strap profile cport mport
    (BoostInOrder.of_severity h.boost_enabled severity (State.page_congr (by rw [profile]))) ring fun a => (h.axis a).kept (run a)

/-- An operation that leaves the axes, the queue, the severity monitor and the ring. -/
theorem RoutesInOrder.of_frame {s t : State} (h : RoutesInOrder s) (held : t.resetHeld = s.resetHeld) (strap : t.strapPage = s.strapPage)
    (profile : t.profile = s.profile) (cport : t.cport = s.cport) (mport : t.mport = s.mport) (severity : t.severity = s.severity)
    (ring : t.ring = s.ring) (axes : t.axes = s.axes) : RoutesInOrder t :=
  h.kept (.of_axes_eq axes) held strap profile cport mport severity ring

/-! ### Arrivals -/

/-- While every axis is OFF an arrival moves none. -/
theorem State.arrival_axes_of_off {s : State} (off : ∀ a, (s.axis a).state = .off) (arr : Arrival) : (s.arrival arr).axes = s.axes := by
  have integrated : forAxes (fun a t => t.integrateAxis arr (s.axisRate arr a) a) s = s :=
    forAxes_keeps (P := fun t => t = s)
      (fun a t same => by subst same; simp [State.integrateAxis, State.axisActive, AxisState.active, off]) rfl
  have composed : forAxes (fun a t => t.arrivalAt a) s = s :=
    forAxes_keeps (P := fun t => t = s)
      (fun a t same => by subst same; simp [State.arrivalAt, AxisState.composes, off]) rfl
  rw [State.arrival_axes, integrated, composed]

theorem AxisRouted.off_of_empty {s : State} {a : AxisId} {ax : Axis} (h : AxisRouted s a ax) (empty : s.profileActive = false) :
    ax.state = .off := by
  by_contra on
  rw [h.active on] at empty
  cases empty

theorem RoutesInOrder.arrival {s : State} (h : RoutesInOrder s) (arr : Arrival) : RoutesInOrder (s.arrival arr) := by
  refine h.of_axes (by simp) (by simp) (by simp) (by simp) (by simp) (BoostInOrder.arrival h.boost_enabled arr) (by simp) fun a => ?_
  cases active : s.profileActive with
  | true =>
    rw [State.axis_arrival active]
    exact (h.axis a).arrived _ _ _ _ _
  | false =>
    rw [State.axis_congr (State.arrival_axes_of_off (fun a => (h.axis a).off_of_empty active) arr)]
    exact h.axis a

theorem RoutesInOrder.acceptFrame {s : State} (h : RoutesInOrder s) (line : Source) (f : List Byte) : RoutesInOrder (s.acceptFrame line f) := by
  have frame : (s.frameSeen line f).resetHeld = s.resetHeld ∧ (s.frameSeen line f).strapPage = s.strapPage ∧
      (s.frameSeen line f).profile = s.profile ∧ (s.frameSeen line f).cport = s.cport ∧ (s.frameSeen line f).mport = s.mport ∧
      (s.frameSeen line f).severity = s.severity ∧ (s.frameSeen line f).ring = s.ring := by
    unfold State.frameSeen
    simp only []
    split <;> simp
  obtain ⟨held, strap, profile, cport, mport, severity, ring⟩ := frame
  have seen := h.kept (keptRun_frameSeen s line f) held strap profile cport mport severity ring
  rw [State.acceptFrame_eq]
  split
  · exact seen.arrival _
  · exact seen

/-! ### Applies (R160) -/

/-- Where the window table changes, every axis is OFF: the apply's last test asks it, or the profile is the first. -/
theorem State.off_of_tableChanged {s : State} (active : ∀ a, (s.axis a).state ≠ .off → s.profileActive = true)
    (ok : s.structuralOk s.profile.shadow = true) (changed : tableChanged s.profile.active s.profile.shadow = true) (a : AxisId) :
    (s.axis a).state = .off := by
  by_contra on
  have notAllOff : s.allOff = false := by
    have any : anyAxis (fun b => s.axisActive b) = true := by
      have this : s.axisActive a = true := by simp [State.axisActive, AxisState.active, on]
      unfold anyAxis
      revert this
      match a with
      | 0 | 1 | 2 | 3 => intro this; simp [this]
    simp [State.allOff, any]
  cases old : s.profile.active with
  | none =>
    have := active a on
    simp [State.profileActive, old] at this
  | some p =>
    rw [old] at changed
    simp only [State.structuralOk, notAllOff, old, Bool.false_or, Bool.not_eq_true'] at ok
    simp only [tableChanged] at changed
    simp [structuralDiffer, changed] at ok

theorem State.retabled_cport (s : State) :
    s.retabled.cport = if tableChanged s.profile.active s.profile.shadow then s.activateProfile.rebindQueue.cport else s.cport := by
  have table : s.retabled.cport = (s.activateProfile.takeUpTable s.profile.active).cport := by simp [State.retabled]
  rw [table, State.takeUpTable, State.activateProfile_page]
  split <;> simp

/-- With the tables no different the new one covers what the old one did. -/
theorem intentCovers_of_not_tableChanged {s t : State} {q : Page} (active : t.profile.active = some q)
    (changed : tableChanged s.profile.active q = false) (a : AxisId) (addr : Addr) :
    IntentCovers t a addr ↔ IntentCovers s a addr := by
  cases old : s.profile.active with
  | none => rw [old] at changed; cases changed
  | some p =>
    rw [old] at changed
    simp only [tableChanged] at changed
    rw [intentCovers_iff active, intentCovers_iff old]
    constructor
    · rintro ⟨n, kind, axis, covers⟩
      have same := window_covers_of_not_tablesDiffer ((tablesDiffer_symm q p).trans changed) n ⟨kind, covers⟩
      exact ⟨n, same ▸ kind, same ▸ axis, same ▸ covers⟩
    · rintro ⟨n, kind, axis, covers⟩
      have same := window_covers_of_not_tablesDiffer changed n ⟨kind, covers⟩
      exact ⟨n, same ▸ kind, same ▸ axis, same ▸ covers⟩

theorem routesInOrder_retabled {s : State} (h : RoutesInOrder s) (awake : s.resetHeld = false) (applied : s.judgeApply.1 = .applied) :
    RoutesInOrder s.retabled := by
  obtain ⟨range, -, -, structural⟩ := State.judgeApply_applied applied
  have profile : s.retabled.profile.active = some s.profile.shadow := by simp [State.retabled_profile]
  have table : TableRouted s.retabled :=
    tableRouted_of_windowsPass profile (by simpa using Page.windowsPass_of_rangeFault_eq_none range)
  have off := State.off_of_tableChanged (fun a => (h.axis a).active) structural
  refine routesInOrder_of_parts table (fun e he => ?_) (fun a => ?_) ?_ ?_ fun reset => ?_
  · rw [State.retabled_cport] at he
    cases changed : tableChanged s.profile.active s.profile.shadow with
    | true =>
      rw [if_pos changed] at he
      obtain ⟨e', -, rfl⟩ := List.mem_map.mp he
      have activated : TableRouted s.activateProfile := table.congr (by simp) (by simp [State.activateProfile_profile, profile])
      exact (entryRouted_rebindEntry activated e').congr (by simp [State.activateProfile_profile, profile])
    | false =>
      rw [changed] at he
      intro addr data lanes a b txn bind covers
      exact h.entry he addr data lanes a b txn bind ((intentCovers_of_not_tableChanged profile changed b addr).mp covers)
  · rw [State.axis_retabled]
    have before := h.axis a
    cases changed : tableChanged s.profile.active s.profile.shadow with
    | true =>
      have isOff := off changed a
      have none : (s.axis a).refreshPending ≠ true := fun pending => before.pending pending isOff
      have state : (retabledAxis s.profile.active s.profile.shadow (s.axis a)).state = .off := by rw [retabledAxis_state, isOff]
      rw [retabledAxis, if_pos changed] at state ⊢
      refine ⟨by simp, fun on => ?_, fun pending => (none pending).elim, fun on => (on state).elim⟩
      obtain valid | on | pending := on
      · cases valid
      · exact (on state).elim
      · exact (none pending).elim
    | false =>
      rw [retabledAxis, changed]
      exact ⟨fun addr out => (intentCovers_of_not_tableChanged profile changed a addr).mpr (before.matched addr out), before.set,
        before.pending, fun _ => s.retabled_active⟩
  · exact (boostInOrder_takeUpBoost ((s.activateProfile.takeUpTable s.profile.active).clearRefreshCounts) s.profile.active).of_severity
      (by simp [State.retabled]) (by simp [State.retabled])
  · refine ringRouted_takeUpRing fun p old settings => ?_
    have page : s.page = p := by simp [State.page, old]
    have active : s.profileActive = true := by simp [State.profileActive, old]
    simp only [State.takeUpRate_frame, State.takeUpBoost_frame, State.clearRefreshCounts_frame, State.takeUpTable_frame,
      State.activateProfile_page, Page.ringSettings, Prod.mk.injEq] at settings
    obtain ⟨-, length, enable⟩ := settings
    have ring := h.slot_in_ring
    simp only [RingRouted, State.ringEnabled, State.ringN, active, page] at ring ⊢
    simpa [State.activateProfile_page, State.profileActive, State.activateProfile_profile, ← length, ← enable] using ring
  · simp [awake] at reset

theorem RoutesInOrder.takeUpProfile {s : State} (h : RoutesInOrder s) (awake : s.resetHeld = false) (applied : s.judgeApply.1 = .applied) :
    RoutesInOrder s.takeUpProfile := by
  rw [State.takeUpProfile_eq]
  exact (routesInOrder_retabled h awake applied).kept
    (.comp (keptRun_takeUpFaults _ _) (keptRun_reviewSelection _)) (by simp) (by simp) (by simp) (by simp) (by simp) (by simp) (by simp)

end Sys2Proof.Machine
end

section
/-! The routes stay in order under every command, and the grants carry what they ask for (R106). -/

namespace Sys2Proof.Machine

/-- A command on one axis, by what it makes of that axis's record. -/
theorem RoutesInOrder.command {s t : State} {a : AxisId} {ax : Axis} (h : RoutesInOrder s) (held : t.resetHeld = s.resetHeld)
    (strap : t.strapPage = s.strapPage) (profile : t.profile = s.profile) (cport : t.cport = s.cport) (mport : t.mport = s.mport)
    (severity : t.severity = s.severity) (ring : t.ring = s.ring) (axis : ∀ b, t.axis b = if b = a then ax else s.axis b)
    (routed : AxisRouted s a ax) : RoutesInOrder t := by
  refine h.of_axes held strap profile cport mport
    (BoostInOrder.of_severity h.boost_enabled severity (State.page_congr (by rw [profile]))) ring fun b => ?_
  rw [axis]
  split
  next same => subst same; exact routed
  next => exact h.axis b

theorem RoutesInOrder.recordIntent {s : State} (h : RoutesInOrder s) {a : AxisId} {addr : Addr} (active : s.profileActive = true)
    (covers : IntentCovers s a addr) (data : Word) (lanes : Lanes) : RoutesInOrder (s.recordIntent a addr data lanes) := by
  refine h.command (by simp) (by simp) (by simp) (by simp) (by simp) (by simp) (by simp)
    (State.axis_recordIntent active a addr data lanes) ?_
  have recorded := (h.axis a).recorded covers data lanes
  split
  next composes => exact (recorded.resumed composes _).composedAxis _ _ _
  next => exact recorded

/-- A change of the severity monitor alone. -/
theorem RoutesInOrder.ofBoost {s t : State} (h : RoutesInOrder s) (held : t.resetHeld = s.resetHeld) (strap : t.strapPage = s.strapPage)
    (profile : t.profile = s.profile) (cport : t.cport = s.cport) (mport : t.mport = s.mport) (ring : t.ring = s.ring)
    (axes : t.axes = s.axes) (boost : BoostInOrder t) : RoutesInOrder t :=
  h.of_axes held strap profile cport mport boost ring fun a => by rw [State.axis_congr axes]; exact h.axis a

/-- A change of the ring and of the M-port's traffic alone, which begins none while a reset stands. -/
theorem RoutesInOrder.ofRing {s t : State} (h : RoutesInOrder s) (held : t.resetHeld = s.resetHeld) (strap : t.strapPage = s.strapPage)
    (profile : t.profile = s.profile) (cport : t.cport = s.cport) (severity : t.severity = s.severity) (axes : t.axes = s.axes)
    (ring : RingRouted t) (idle : s.resetHeld = true → s.mport.busy = none → t.mport.busy = none) : RoutesInOrder t :=
  h.update held strap (by rw [profile]) (fun e he => h.entry (by rwa [cport] at he))
    (fun a => by rw [State.axis_congr axes]; exact h.axis a)
    (BoostInOrder.of_severity h.boost_enabled severity (State.page_congr (by rw [profile]))) ring idle

/-- A write joins the queue bound, if at all, to the axis whose window decides its address, which alone its windows match. -/
theorem RoutesInOrder.enqueueWrite {s : State} (h : RoutesInOrder s) (addr : Addr) (data : Word) (lanes : Lanes) (bind : Option AxisId)
    (decided : ∀ a, bind = some a → s.classify addr = .intent a) : RoutesInOrder (s.enqueue (.write addr data lanes) bind) := by
  refine h.update rfl rfl rfl (fun e he => ?_) h.axis h.boost_enabled h.slot_in_ring fun _ idle => idle
  obtain queued | new := List.mem_append.mp he
  · exact h.entry queued
  · rw [List.mem_singleton.mp new]
    rintro _ _ _ a b ⟨⟩ bound covers
    exact h.one_axis b a _ covers (intentCovers_of_classify (decided a bound))

theorem RoutesInOrder.enqueueRead {s : State} (h : RoutesInOrder s) (addr : Addr) (lanes : Lanes) (bind : Option AxisId) :
    RoutesInOrder (s.enqueue (.read addr lanes) bind) := by
  refine h.update rfl rfl rfl (fun e he => ?_) h.axis h.boost_enabled h.slot_in_ring fun _ idle => idle
  obtain queued | new := List.mem_append.mp he
  · exact h.entry queued
  · rw [List.mem_singleton.mp new]
    rintro _ _ _ a b ⟨⟩

theorem RoutesInOrder.grantEntry {s : State} (h : RoutesInOrder s) {e : QEntry} {rest : List QEntry} (grants : s.grantsHead = true)
    (head : s.cport.queue = e :: rest) : RoutesInOrder (s.grantEntry e rest) := by
  obtain ⟨awake, -⟩ := s.portFree_iff.mp (State.portFree_of_grantsHead grants)
  refine h.update (by simp) (by simp) (by simp) (fun e' he => ?_) (fun a => (h.axis a).kept (keptRun_grantEntry s e rest a))
    (BoostInOrder.of_severity h.boost_enabled (by simp) (State.page_congr (by simp)))
    (RingRouted.of_ring h.slot_in_ring (by simp) (by simp)) fun held => by simp [awake] at held
  have queue : (s.grantEntry e rest).cport.queue = rest := by
    unfold State.grantEntry
    simp only []
    split <;> simp
  rw [queue] at he
  exact h.entry (by rw [head]; exact List.mem_cons_of_mem _ he)

/-- A grant of an own request begins none while a reset stands. -/
theorem RoutesInOrder.ownGrant {s : State} (h : RoutesInOrder s) (r : OwnRequest) : RoutesInOrder (r.grant s) := by
  cases grants : s.grantsOwn r with
  | false => rwa [OwnRequest.grant_of_not grants]
  | true =>
    obtain ⟨awake, -⟩ := s.portFree_iff.mp (State.portFree_of_grantsOwn grants)
    obtain ⟨-, held, strap, -, cport, profile, -⟩ := r.grant_frame s
    have boost : BoostInOrder (r.grant s) := by
      cases r with
      | boost =>
        change BoostInOrder s.grantBoost
        rw [State.grantBoost, if_pos grants]
        split
        · exact h.boost_enabled
        · exact fun held => by simp at held
      | refresh | report | ring | sweep =>
        exact BoostInOrder.of_severity h.boost_enabled (by simp [OwnRequest.grant]) (State.page_congr (by rw [profile]))
    have ring : RingRouted (r.grant s) := by
      cases r with
      | ring =>
        change RingRouted s.grantRing
        rw [State.grantRing, if_pos grants]
        split
        · exact h.slot_in_ring
        · exact RingRouted.congr h.slot_in_ring (by simp) (by simp) (by simp) (by simp)
      | refresh | boost | report | sweep => exact RingRouted.of_ring h.slot_in_ring (by rw [profile]) (by simp [OwnRequest.grant])
    have axes : KeptRun s (r.grant s) := by
      cases r with
      | refresh => exact keptRun_grantRefresh s
      | boost | report | ring | sweep => exact .of_axes_eq (by simp [OwnRequest.grant])
    exact h.update held strap (by rw [profile]) (fun e he => h.entry (by rwa [cport] at he)) (fun a => (h.axis a).kept (axes a)) boost ring
      fun reset => by simp [awake] at reset

theorem routesInOrder_resetBlocks (s : State) (bias : PerSource Channels) (timecode : Timecode) :
    RoutesInOrder (s.resetBlocks bias timecode) := by
  have none : (s.resetBlocks bias timecode).profile.active = none := rfl
  refine routesInOrder_of_parts (tableRouted_of_empty none) (fun e he => by cases he) (fun a => ?_) (fun held => ?_) ⟨fun staged => ?_, ?_⟩
    fun _ => ⟨none, s.resetBlocks_busy bias timecode⟩
  · rw [State.resetBlocks_axis]
    exact ⟨by simp [Axis.reset], by simp [Axis.reset], by simp [Axis.reset], by simp [Axis.reset]⟩
  · exact (held rfl).elim
  · exact (staged rfl).elim
  · intro enabled
    have active := (State.ringEnabled_iff _ |>.mp enabled).1
    simp [State.profileActive, none] at active

/-- The straps that the end of a reset reads move no route: no profile is active. -/
theorem RoutesInOrder.strapsRead {s : State} (h : RoutesInOrder s) (reset : s.resetHeld = true) (straps : PageNo) :
    RoutesInOrder { s with resetHeld := false, strapPage := straps } :=
  routesInOrder_of_parts (tableRouted_of_empty (h.reset_idle reset).1) (fun _ => h.entry) (fun a => (h.axis a).congr rfl) h.boost_enabled
    h.slot_in_ring fun held => (Bool.false_ne_true held).elim

theorem keptByCommands_routesInOrder : KeptByCommands RoutesInOrder where
  mark _ _ h := h.of_frame rfl rfl rfl rfl rfl rfl rfl rfl
  raise := raise_of_report fun _ _ h => h.of_frame rfl rfl rfl rfl rfl rfl rfl rfl
  clearEvents _ _ h := h.of_frame rfl rfl rfl rfl rfl rfl rfl rfl
  profileUnit _ _ active h := h.update rfl rfl active (fun _ => h.entry) h.axis
    (BoostInOrder.of_severity h.boost_enabled rfl (State.page_congr active)) (RingRouted.of_ring h.slot_in_ring active rfl) fun _ idle => idle
  offered _ _ h := h.update rfl rfl rfl (fun _ => h.entry) h.axis h.boost_enabled h.slot_in_ring fun _ idle => idle
  enqueueWrite _ addr data lanes bind _ decided h := h.enqueueWrite addr data lanes bind decided
  enqueueRead _ addr lanes bind _ h := h.enqueueRead addr lanes bind
  consumer _ _ _ h := h.ofRing rfl rfl rfl rfl rfl rfl (RingRouted.congr h.slot_in_ring rfl id rfl rfl) fun _ idle => idle
  recordIntent _ _ _ data lanes active decided h := h.recordIntent active (intentCovers_of_classify decided) data lanes
  start s a active _ _ valid h :=
    h.command (by simp) (by simp) (by simp) (by simp) (by simp) (by simp) (by simp) (s.axis_startAxis a) ((h.axis a).started active valid _)
  stop _ a active _ h :=
    h.command (by simp) (by simp) (by simp) (by simp) (by simp) (by simp) (by simp) (State.axis_stopAxis active a) (h.axis a).stopped
  park _ a active _ h :=
    h.kept (keptRun_hold active a .command) (by simp) (by simp) (by simp) (by simp) (by simp) (by simp) (by simp)
  release _ a active held h :=
    h.command (by simp) (by simp) (by simp) (by simp) (by simp) (by simp) (by simp) (State.axis_releaseAxis active a)
      ((h.axis a).released held _ _ _)
  zero _ _ h := h.of_frame (by simp) (by simp) (by simp) (by simp) (by simp) (by simp) (by simp) (by simp)
  excite _ _ h := h.of_frame (by simp) (by simp) (by simp) (by simp) (by simp) (by simp) (by simp) (by simp)
  tcSet _ h := h.of_frame (by simp) (by simp) (by simp) (by simp) (by simp) (by simp) (by simp) (by simp)
  sourceReturn s _ _ h :=
    h.kept (keptRun_select s _) (by simp) (by simp) (by simp) (by simp) (by simp) (by simp) (by simp)
  takeUp _ awake applied h := h.takeUpProfile awake applied
  startUpApply s t busy _ h u held applied routed := by
    refine routed.takeUpProfile ?_ applied
    rw [held]
    by_contra reset
    have idle := (h.reset_idle (by simpa using reset)).2
    rw [idle] at busy
    cases busy
  pending _ _ h := h.of_frame rfl rfl rfl rfl rfl rfl rfl rfl
  reset s bias timecode _ _ := routesInOrder_resetBlocks s bias timecode
  strapsRead _ straps reset h := h.strapsRead reset straps
  tick s h := h.of_axes rfl rfl rfl rfl rfl h.boost_enabled rfl fun a => (h.axis a).kept (keptRun_tick s a)
  assembly _ _ _ h := h.of_frame (by simp) (by simp) (by simp) (by simp) (by simp) (by simp) (by simp) (by simp)
  acceptFrame _ line f _ h := h.acceptFrame line f
  staleExpiry s src h := h.kept (keptRun_staleExpiry s src) (by simp) (by simp) (by simp) (by simp) (by simp) (by simp) (by simp)
  silenceExpiry s a h := h.kept (keptRun_silenceExpiry s a) (by simp) (by simp) (by simp) (by simp) (by simp) (by simp) (by simp)
  dwellExpiry s a h := h.kept (keptRun_dwellExpiry s a) (by simp) (by simp) (by simp) (by simp) (by simp) (by simp) (by simp)
  deadlineExpiry s a h := h.kept (keptRun_deadlineExpiry s a) (by simp) (by simp) (by simp) (by simp) (by simp) (by simp) (by simp)
  toggleLamp s h := by
    unfold State.toggleLamp
    split
    · exact h.of_frame rfl rfl rfl rfl rfl rfl rfl rfl
    · exact h
  settleExpiry _ h := h.ofBoost (by simp) (by simp) (by simp) (by simp) (by simp) (by simp) (by simp) (BoostInOrder.settleExpiry h.boost_enabled)
  exitHoldExpiry _ h :=
    h.ofBoost (by simp) (by simp) (by simp) (by simp) (by simp) (by simp) (by simp) (BoostInOrder.exitHoldExpiry h.boost_enabled)
  frameLostExpiry _ h := h.of_frame (by simp) (by simp) (by simp) (by simp) (by simp) (by simp) (by simp) (by simp)
  framePulse s h := by
    refine h.ofRing (by simp) (by simp) (by simp) (by simp) (by simp) (by simp) ?_ fun _ idle => by simp [idle]
    exact RingRouted.captureRecord (RingRouted.of_ring h.slot_in_ring (by simp) (by simp))
  headGranted _ _ _ grants head h := h.grantEntry grants head
  refreshGrant _ h := h.ownGrant .refresh
  boostGrant _ h := h.ownGrant .boost
  reportGrant _ h := h.ownGrant .report
  ringGrant _ h := h.ownGrant .ring
  sweepGrant _ h := h.ownGrant .sweep
  writeReady s h := h.ofRing (by simp) (by simp) (by simp) (by simp) (by simp) (by simp) (RingRouted.of_ring h.slot_in_ring (by simp) (by simp))
    fun _ idle => by simp [State.completeWrite, idle]
  ringReady s h := h.ofRing (by simp) (by simp) (by simp) (by simp) (by simp) (by simp) (RingRouted.completeRingWord h.slot_in_ring)
    fun _ idle => by simp [State.completeRingWord, idle]
  sweepReady _ _ _ _ h := h.update rfl rfl rfl (fun _ => h.entry) h.axis h.boost_enabled h.slot_in_ring fun _ _ => rfl
  readReady _ _ _ _ _ _ h := h.update rfl rfl rfl (fun _ => h.entry) h.axis h.boost_enabled h.slot_in_ring fun _ _ => rfl

/-- Settles O57: an accepted apply changes the window table only while every axis is OFF, and binds the queued writes anew; every other command
leaves the table, and gives an axis an output address only where an INTENT window of the axis decides it. -/
theorem routesStayInOrder : Obligations.RoutesStayInOrder := fun _ _ => keptByCommands_routesInOrder.step

end Sys2Proof.Machine
end

section
/-! What a write that begins on the M-port carries (R106): only a grant begins one, and what each grant writes at an address of an axis's INTENT
windows is the axis's output. -/

namespace Sys2Proof.Machine

/-! ### The transaction in progress -/

/-- Direction, address, data and lanes of the transaction in progress. -/
def State.traffic (s : State) : Option (Bool × Addr × Word × Lanes) := s.mport.busy.map fun w => (w.isWrite, w.addr, w.data, w.lanes)

theorem State.traffic_eq_none_iff (s : State) : s.traffic = none ↔ s.mport.busy = none := by simp [State.traffic]

theorem State.traffic_congr {s t : State} (mport : t.mport = s.mport) : t.traffic = s.traffic := by rw [State.traffic, mport, State.traffic]

theorem MTxn.orphan_carries (w : MTxn) :
    (w.orphan.isWrite, w.orphan.addr, w.orphan.data, w.orphan.lanes) = (w.isWrite, w.addr, w.data, w.lanes) := by
  unfold MTxn.orphan
  split
  next kind => simp [MTxn.isWrite, kind]
  all_goals rfl

theorem State.restartRing_traffic (s : State) : s.restartRing.traffic = s.traffic := by
  simp only [State.traffic, State.restartRing, State.mark_frame, Option.map_map]
  congr 1
  exact funext MTxn.orphan_carries

theorem State.takeUpProfile_traffic (s : State) : s.takeUpProfile.traffic = s.traffic := by
  have before : ((((s.activateProfile).takeUpTable s.profile.active).clearRefreshCounts.takeUpBoost s.profile.active).takeUpRate).traffic =
      s.traffic := State.traffic_congr (by simp)
  have ring : s.retabled.traffic = s.traffic := by
    unfold State.retabled State.takeUpRing
    split
    · exact before
    · rw [State.restartRing_traffic, before]
  rw [State.takeUpProfile_eq, ← ring]
  exact State.traffic_congr (by simp)

/-- No acceptance begins, ends or changes a transaction of the M-port. -/
theorem keptByAcceptance_traffic (w : Option (Bool × Addr × Word × Lanes)) : KeptByAcceptance fun s => s.traffic = w where
  mark _ _ h := h
  raise := raise_of_report fun _ _ h => h
  clearEvents _ _ h := h
  profileUnit _ _ _ h := h
  offered _ _ h := h
  enqueueWrite _ _ _ _ _ _ _ h := h
  enqueueRead _ _ _ _ _ h := h
  consumer _ _ _ h := h
  recordIntent _ _ _ _ _ _ _ h := (State.traffic_congr (by simp)).trans h
  start _ _ _ _ _ _ h := (State.traffic_congr (by simp)).trans h
  stop _ _ _ _ h := (State.traffic_congr (by simp)).trans h
  park _ _ _ _ h := (State.traffic_congr (by simp)).trans h
  release _ _ _ _ h := (State.traffic_congr (by simp)).trans h
  zero _ _ h := (State.traffic_congr (by simp)).trans h
  excite _ _ h := (State.traffic_congr (by simp)).trans h
  tcSet _ h := (State.traffic_congr (by simp)).trans h
  sourceReturn _ _ _ h := (State.traffic_congr (by simp)).trans h
  takeUp s _ _ h := s.takeUpProfile_traffic.trans h

/-- A transaction begins at an idle M-port only by a grant. -/
theorem begun_by_grant {c : Instr} {s t : State} {w : MTxn} (he : exec c s = .next t) (idle : s.mport.busy = none)
    (begun : t.mport.busy = some w) :
    (∃ e rest, s.grantsHead = true ∧ s.cport.queue = e :: rest ∧ t = (s.grantEntry e rest).admitStretched) ∨
      ∃ r, s.grantsOwn r = true ∧ t = OwnRequest.grant r s := by
  have free := s.traffic_eq_none_iff.mpr idle
  have kept : t.traffic ≠ none := by simp [State.traffic_eq_none_iff, begun]
  have K := keptByAcceptance_traffic none
  have unbegun : ∀ {u : State}, u.mport = s.mport → u.traffic = none := fun mport => (State.traffic_congr mport).trans free
  have own : ∀ r, t = OwnRequest.grant r s → ∃ r, s.grantsOwn r = true ∧ t = OwnRequest.grant r s := fun r grant => by
    cases grants : s.grantsOwn r with
    | true => exact ⟨r, grants, grant⟩
    | false =>
      rw [grant, OwnRequest.grant_of_not grants] at kept
      exact (kept free).elim
  cases c <;> cases he
  case powerOnReset | lineReset => exact (kept ((State.traffic_eq_none_iff _).mpr (s.resetBlocks_busy _ _))).elim
  case resetEnd straps =>
    refine (kept ?_).elim
    unfold State.endReset
    split
    · exact K.admitStretched (s := { s with resetHeld := false, strapPage := straps }) free
    · exact free
  case start | stop | park | release | zero | excite | tcSet | sourceReturn | unknownCommand | apply | intentWrite | ringConsumer
      | controllerWrite | controllerRead => exact (kept (K.offer free _)).elim
  case queueHeadGrant =>
    left
    unfold State.grantHead at kept ⊢
    split
    next grants =>
      rw [if_pos grants] at kept
      cases queue : s.cport.queue with
      | nil => rw [queue] at kept; exact (kept free).elim
      | cons e rest => exact ⟨e, rest, grants, rfl, rfl⟩
    next refuses => rw [if_neg refuses] at kept; exact (kept free).elim
  case refreshGrant => exact .inr (own .refresh rfl)
  case boostGrant => exact .inr (own .boost rfl)
  case reportWordGrant => exact .inr (own .report rfl)
  case ringWordGrant => exact .inr (own .ring rfl)
  case sweepReadGrant => exact .inr (own .sweep rfl)
  case writeComplete => exact (kept (by simp [State.completeWrite, idle, State.traffic])).elim
  case ringWordDone => exact (kept (by simp [State.completeRingWord, idle, State.traffic])).elim
  case sweepReadDone => exact (kept (by simp [State.completeSweepRead, idle, State.traffic])).elim
  case readReturn => exact (kept (by simp [State.completeRead, idle, State.traffic])).elim
  case eventPending => exact (kept (by simp [State.completeEventRead, idle, State.traffic])).elim
  case timeBasePulse => exact (kept (keeps_unless_reset (P := fun u => u.traffic = none) free fun _ => unbegun rfl)).elim
  case goodByte | framingError | byteTimeout | inertialFrame =>
    refine (kept (keeps_unless_reset (P := fun u => u.traffic = none) free fun _ => unbegun ?_)).elim
    simp
  case statBlinkToggle =>
    refine (kept (unbegun ?_)).elim
    unfold State.toggleLamp
    split <;> rfl
  all_goals
    refine (kept (unbegun ?_)).elim
    simp

/-! ### What the grants write -/

theorem State.activeIntentAxis_eq {s : State} {a : AxisId} {addr : Addr} (only : ∀ b, IntentCovers s b addr → b = a)
    (covers : IntentCovers s a addr) (active : s.axisActive a = true) : s.activeIntentAxis addr = some a := by
  obtain ⟨u, listed, kind, axis, matched⟩ := covers
  have some : (s.table.find? fun w => w.covers addr && w.kind == .intent && s.axisActive w.axis).isSome = true := by
    rw [List.find?_isSome]
    exact ⟨u, listed, by simp [matched, kind, axis, active]⟩
  obtain ⟨v, found⟩ := Option.isSome_iff_exists.mp some
  have decides := List.find?_some found
  simp only [Bool.and_eq_true, beq_iff_eq] at decides
  obtain ⟨⟨covers', kind'⟩, -⟩ := decides
  have same := only _ ⟨v, List.mem_of_find?_eq_some found, kind', rfl, covers'⟩
  simp [State.activeIntentAxis, found, same]

/-- A queued write granted at an address of an active axis's INTENT windows carries the axis's output. -/
theorem State.carried_of_covers {s : State} (h : RoutesInOrder s) {e : QEntry} (queued : e ∈ s.cport.queue) {a : AxisId}
    (write : (s.carried e).isWrite = true) (active : s.axisActive a = true) (covers : IntentCovers s a (s.carried e).addr) :
    (s.carried e).data = s.outputWord a ∧ (s.carried e).lanes = .both := by
  cases txn : e.txn with
  | read addr lanes => simp [State.carried, txn, MTxn.isWrite] at write
  | write addr data lanes =>
    have at_addr : (s.carried e).addr = addr := by
      simp only [State.carried, txn]
      (repeat' split) <;> rfl
    rw [at_addr] at covers
    cases bound : e.bind with
    | some b =>
      have same := h.bound_to_match e queued addr data lanes b a txn bound covers
      subst same
      simp [State.carried, txn, bound, active]
    | none => simp [State.carried, txn, bound, State.activeIntentAxis_eq (fun b other => h.table.one_axis _ _ _ other covers) covers active]

/-- A staged word's slot address lies in the ring region. -/
theorem State.inRing_slotAddr {s : State} (enabled : s.ringEnabled = true) {slot k : Nat} (hslot : slot < s.ringN) (hk : k < 12) :
    s.inRing (s.page.slotAddr slot k) = true := by
  obtain ⟨active, ring, two, eighty⟩ := s.ringEnabled_iff.mp enabled
  cases profile : s.profile.active with
  | none => simp [State.profileActive, profile] at active
  | some p =>
    have page : s.page = p := by simp [State.page, profile]
    simp only [State.ringN, page] at hslot two eighty ring
    have offset : (p.slotAddr slot k - p.ringStart).toNat = 12 * slot + k := by
      have cancel : p.slotAddr slot k - p.ringStart = BitVec.ofNat 18 (12 * slot + k) := by
        rw [Page.slotAddr, BitVec.add_comm, BitVec.add_sub_cancel]
      rw [cancel, BitVec.toNat_ofNat]
      exact Nat.mod_eq_of_lt (by omega)
    simp only [State.inRing, profile, page, Page.inRing, Page.hasRing, ring, offset, Bool.true_and, Bool.and_eq_true, bne_iff_ne,
      decide_eq_true_eq]
    omega

/-- An own write at an address of an active axis's INTENT windows is the axis's refresh. -/
theorem OwnRequest.grant_of_covers {s : State} (h : RoutesInOrder s) {r : OwnRequest} (grants : s.grantsOwn r = true) {w : MTxn}
    {a : AxisId} (begun : (r.grant s).mport.busy = some w) (write : w.isWrite = true) (covers : IntentCovers s a w.addr) :
    w.data = s.outputWord a ∧ w.lanes = .both := by
  obtain ⟨-, idle⟩ := s.portFree_iff.mp (State.portFree_of_grantsOwn grants)
  obtain ⟨profile, report, ring, boost⟩ := h.clear_of_regions a _ covers
  cases r with
  | refresh =>
    simp only [OwnRequest.grant, State.grantRefresh, if_pos grants] at begun
    split at begun
    next => rw [idle] at begun; cases begun
    next b waits =>
      simp only [State.clearRefresh_frame, State.beginOwn, Option.some.injEq] at begun
      subst begun
      have pending : (s.axis b).refreshPending = true := by simpa using List.find?_some waits
      obtain ⟨addr, out⟩ := Option.ne_none_iff_exists'.mp (h.address_set b (.inr (.inr pending)))
      simp only [out, Option.getD_some] at covers
      rw [h.one_axis a b addr covers (h.address_matched b addr out)]
      exact ⟨rfl, rfl⟩
  | boost =>
    simp only [OwnRequest.grant, State.grantBoost, if_pos grants] at begun
    split at begun
    next => rw [idle] at begun; cases begun
    next v held =>
      simp only [State.beginOwn, Option.some.injEq] at begun
      subst begun
      exact (boost (h.boost_enabled (by simp [held])) rfl).elim
  | report =>
    simp only [OwnRequest.grant, State.grantReport, if_pos grants] at begun
    split at begun
    next => rw [idle] at begun; cases begun
    next =>
      simp only [State.beginOwn, Option.some.injEq] at begun
      subst begun
      exact (report (by simp [State.reportAddr])).elim
  | ring =>
    simp only [OwnRequest.grant, State.grantRing, if_pos grants] at begun
    split at begun
    next => rw [idle] at begun; cases begun
    next addr data next =>
      simp only [State.beginOwn, Option.some.injEq] at begun
      subst begun
      unfold State.nextRingWord at next
      split at next
      next => cases next
      next words staged =>
        split_ifs at next with below
        simp only [Option.some.injEq, Prod.mk.injEq] at next
        obtain ⟨rfl, -⟩ := next
        obtain ⟨enabled, slot⟩ := h.slot_in_ring.1 (by simp [staged])
        rw [State.inRing_slotAddr enabled slot below] at ring
        cases ring
  | sweep =>
    simp only [OwnRequest.grant, State.grantSweep, if_pos grants] at begun
    split at begun
    next => rw [idle] at begun; cases begun
    next =>
      simp only [State.beginOwn, Option.some.injEq] at begun
      subst begun
      simp [MTxn.isWrite] at write

/-- Settles O58: only grants begin a write; a queued one at such an address is bound to the axis or to none, and of the own ones only the
refreshes reach it. -/
theorem setpointWritesCarryTheOutput : Obligations.SetpointWritesCarryTheOutput := by
  intro c s t w a h he idle begun write on covers
  have active : s.axisActive a = true := by simp [State.axisActive, AxisState.active, on]
  obtain ⟨e, rest, grants, head, rfl⟩ | ⟨r, grants, rfl⟩ := begun_by_grant he idle begun
  · have granted : (s.grantEntry e rest).traffic =
        some ((s.carried e).isWrite, (s.carried e).addr, (s.carried e).data, (s.carried e).lanes) := by
      unfold State.grantEntry
      simp only []
      split <;> simp [State.traffic]
    have carried := (keptByAcceptance_traffic _).admitStretched granted
    simp only [State.traffic, begun, Option.map_some, Option.some.injEq, Prod.mk.injEq] at carried
    obtain ⟨isWrite, addr, data, lanes⟩ := carried
    rw [data, lanes]
    exact State.carried_of_covers h (by simp [head]) (isWrite ▸ write) active (addr ▸ covers)
  · exact OwnRequest.grant_of_covers h grants begun write covers

end Sys2Proof.Machine
end

section
/-! The outputs (R43 to R46): an active axis's output stays within its soft limits, and moves by no more than the step limit at an update. -/

namespace Sys2Proof.Machine

/-! ### What a record shows -/

/-- Nothing an axis's record shows of its output has changed, and no hold has ended. -/
structure AxisStill (ax ax' : Axis) : Prop where
  output : ax'.output = ax.output
  shown : ax'.correction = ax.correction ∧ ax'.rate = ax.rate ∧ ax'.limit = ax.limit
  off_iff : ax'.state = .off ↔ ax.state = .off
  held : ax.state = .held → ax'.state = .held

theorem AxisStill.refl (ax : Axis) : AxisStill ax ax := ⟨rfl, ⟨rfl, rfl, rfl⟩, Iff.rfl, id⟩

theorem AxisStill.trans {ax ax' ax'' : Axis} (h : AxisStill ax ax') (k : AxisStill ax' ax'') : AxisStill ax ax'' where
  output := k.output.trans h.output
  shown := ⟨k.shown.1.trans h.shown.1, k.shown.2.1.trans h.shown.2.1, k.shown.2.2.trans h.shown.2.2⟩
  off_iff := k.off_iff.trans h.off_iff
  held := k.held ∘ h.held

theorem AxisKept.still {ax ax' : Axis} (h : AxisKept ax ax') : AxisStill ax ax' := ⟨h.output, h.shown, h.off_iff, h.held⟩

theorem AxisStill.of_eq {ax ax' : Axis} (output : ax'.output = ax.output)
    (shown : ax'.correction = ax.correction ∧ ax'.rate = ax.rate ∧ ax'.limit = ax.limit) (state : ax'.state = ax.state) :
    AxisStill ax ax' := ⟨output, shown, by rw [state], by rw [state]; exact id⟩

/-! ### Limits -/

/-- An active axis is enabled in an active profile, and its output lies within its soft limits. -/
def AxisLimited (s : State) (a : AxisId) (ax : Axis) : Prop :=
  ax.state ≠ .off → s.profileActive = true ∧ s.page.enabled a = true ∧ s.page.softLo a ≤ ax.output ∧ ax.output ≤ s.page.softHi a

/-- The limits of the enabled axes are in order and their step limits positive. -/
def LimitsInOrder (p : Page) : Prop := ∀ a, p.enabled a = true → p.softLo a < p.softHi a ∧ 1 ≤ p.stepCalm a ∧ 1 ≤ p.stepRough a

theorem OutputsInLimits.limited {s : State} (h : OutputsInLimits s) (a : AxisId) : AxisLimited s a (s.axis a) := h.1 a

theorem OutputsInLimits.order {s : State} (h : OutputsInLimits s) : LimitsInOrder s.page := h.2

theorem LimitsInOrder.stepLimit_pos {p : Page} (h : LimitsInOrder p) {a : AxisId} (enabled : p.enabled a = true) (sev : SeverityState) :
    1 ≤ p.stepLimit a sev := by
  obtain ⟨-, calm, rough⟩ := h a enabled
  unfold Page.stepLimit
  split
  · exact rough
  · exact calm

theorem AxisLimited.still {s : State} {a : AxisId} {ax ax' : Axis} (h : AxisLimited s a ax) (k : AxisStill ax ax') : AxisLimited s a ax' :=
  fun on => by rw [k.output]; exact h (mt k.off_iff.mpr on)

theorem AxisLimited.congr {s t : State} {a : AxisId} {ax : Axis} (h : AxisLimited s a ax) (profile : t.profile.active = s.profile.active) :
    AxisLimited t a ax := by rw [AxisLimited, State.profileActive_congr profile, State.page_congr profile]; exact h

/-! ### Moves -/

/-- One update at most of an axis's output, under the profile and the severity state of `s`. -/
structure AxisMoved (s : State) (a : AxisId) (ax ax' : Axis) : Prop where
  limited : AxisLimited s a ax'
  step : ax.state ≠ .off → ax'.state ≠ .off → (ax'.output - ax.output).natAbs ≤ (s.page.stepLimit a s.severity.state).natAbs
  frozen : ax.state = .held → ax'.state = .held →
    ax'.output = ax.output ∧ ax'.correction = ax.correction ∧ ax'.rate = ax.rate ∧ ax'.limit = ax.limit

theorem AxisMoved.of_still {s : State} {a : AxisId} {ax ax' : Axis} (limited : AxisLimited s a ax) (k : AxisStill ax ax') :
    AxisMoved s a ax ax' where
  limited := limited.still k
  step _ _ := by simp [k.output]
  frozen _ _ := ⟨k.output, k.shown⟩

/-- What shows nothing may go before an update. -/
theorem AxisMoved.after {s : State} {a : AxisId} {ax ax' ax'' : Axis} (h : AxisMoved s a ax' ax'') (k : AxisStill ax ax') :
    AxisMoved s a ax ax'' where
  limited := h.limited
  step on on' := k.output ▸ h.step (mt k.off_iff.mp on) on'
  frozen held held' := by
    obtain ⟨output, correction, rate, limit⟩ := h.frozen (k.held held) held'
    obtain ⟨correction', rate', limit'⟩ := k.shown
    exact ⟨output.trans k.output, correction.trans correction', rate.trans rate', limit.trans limit'⟩

/-- What shows nothing may follow an update of an axis that was not HELD. -/
theorem AxisMoved.before {s : State} {a : AxisId} {ax ax' ax'' : Axis} (h : AxisMoved s a ax ax') (loose : ax.state ≠ .held)
    (k : AxisStill ax' ax'') : AxisMoved s a ax ax'' where
  limited := h.limited.still k
  step on on' := k.output ▸ h.step on (mt k.off_iff.mpr on')
  frozen held := (loose held).elim

/-- A composition (R41 to R43) steps toward its value by no more than the step limit, and the clamp only shortens the step. -/
theorem axisMoved_composedAxis {s : State} {a : AxisId} {ax : Axis} (order : LimitsInOrder s.page) (limited : AxisLimited s a ax)
    (on : ax.state ≠ .off) (loose : ax.state ≠ .held) (x : Int) :
    AxisMoved s a ax (composedAxis s.page a s.severity.state x ax) := by
  obtain ⟨active, enabled, low, high⟩ := limited on
  have positive := order.stepLimit_pos enabled s.severity.state
  refine ⟨fun _ => ⟨active, enabled, ?_⟩, fun _ _ => ?_, fun held => (loose held).elim⟩
  · obtain ⟨order, -, -⟩ := order a enabled
    simp only [composedAxis]
    split_ifs <;> omega
  · simp only [composedAxis]
    split_ifs <;> omega

theorem axisStill_arrivalCounted (divider : Nat) (ax : Axis) : AxisStill ax (arrivalCounted divider ax) := by
  unfold arrivalCounted refreshMarked
  split_ifs <;> exact .of_eq rfl ⟨rfl, rfl, rfl⟩ rfl

theorem axisStill_refreshMarked (ax : Axis) : AxisStill ax (refreshMarked ax) := by
  unfold refreshMarked
  split <;> exact .of_eq rfl ⟨rfl, rfl, rfl⟩ rfl

theorem AxisState.ne_held_of_composes {st : AxisState} (h : st.composes = true) : st ≠ .held := by rintro rfl; cases h

theorem axisMoved_arrived {s : State} {a : AxisId} {ax : Axis} (order : LimitsInOrder s.page) (limited : AxisLimited s a ax) (x : Int)
    (arr : Arrival) (d : Int) :
    AxisMoved s a ax (composedAndCounted s.page a s.severity.state x (integratedAxis s arr d a ax)) := by
  have integrated : AxisStill ax (integratedAxis s arr d a ax) := by
    unfold integratedAxis
    split
    · exact .of_eq rfl ⟨rfl, rfl, rfl⟩ rfl
    · exact .refl ax
  unfold composedAndCounted
  split
  next composes =>
    have loose := AxisState.ne_held_of_composes composes
    exact ((axisMoved_composedAxis order (limited.still integrated) (AxisState.ne_off_of_composes composes) loose x).before loose
      (axisStill_arrivalCounted _ _)).after integrated
  next => exact .of_still limited integrated

theorem axisMoved_recorded {s : State} {a : AxisId} {ax : Axis} (order : LimitsInOrder s.page) (limited : AxisLimited s a ax) (x : Int)
    (addr : Addr) (data : Word) (lanes : Lanes) (timer : Timer) :
    AxisMoved s a ax (if ax.state.composes then
        composedAxis s.page a s.severity.state x { recordedAxis ax addr data lanes with state := .stabilising, silenceTimer := timer }
      else recordedAxis ax addr data lanes) := by
  split
  next composes =>
    have still : AxisStill ax { recordedAxis ax addr data lanes with state := .stabilising, silenceTimer := timer } :=
      ⟨rfl, ⟨rfl, rfl, rfl⟩, by simp [AxisState.ne_off_of_composes composes], fun held => (AxisState.ne_held_of_composes composes held).elim⟩
    exact (axisMoved_composedAxis order (limited.still still) (by simp) (by simp) x).after still
  next => exact .of_still limited (.of_eq rfl ⟨rfl, rfl, rfl⟩ rfl)

/-- The value set at START is the intent clamped into the limits (R64). -/
theorem axisMoved_started {s : State} {a : AxisId} {ax : Axis} (order : LimitsInOrder s.page) (active : s.profileActive = true)
    (enabled : s.page.enabled a = true) (off : ax.state = .off) :
    AxisMoved s a ax { refreshMarked (startedAxis s.page a ax) with state := .stabilising } := by
  obtain ⟨ordered, -, -⟩ := order a enabled
  refine ⟨fun _ => ⟨active, enabled, ?_⟩, fun on => (on off).elim, fun held => by rw [off] at held; cases held⟩
  rw [(axisStill_refreshMarked _).output]
  simp only [startedAxis, Page.softClamp, clamp]
  split_ifs <;> omega

theorem axisMoved_stopped {s : State} {a : AxisId} {ax : Axis} : AxisMoved s a ax (stoppedAxis ax) :=
  ⟨fun on => (on rfl).elim, fun _ on => (on rfl).elim, fun _ held => by cases held⟩

/-- A RELEASE composes once from the output it was held at (R75). -/
theorem axisMoved_released {s : State} {a : AxisId} {ax : Axis} (order : LimitsInOrder s.page) (limited : AxisLimited s a ax)
    (held : ax.state = .held) (x : Int) :
    AxisMoved s a ax (refreshMarked (composedAxis s.page a s.severity.state x { releasedAxis s.page a ax with state := .stabilising })) := by
  have on : ax.state ≠ .off := by simp [held]
  have resumed : AxisLimited s a { releasedAxis s.page a ax with state := .stabilising } := fun _ => limited on
  have composed := (axisMoved_composedAxis order resumed (by simp) (by simp) x).before (by simp) (axisStill_refreshMarked _)
  have stabilising : (refreshMarked (composedAxis s.page a s.severity.state x
      { releasedAxis s.page a ax with state := .stabilising })).state = .stabilising := by
    unfold refreshMarked
    split <;> rfl
  exact ⟨composed.limited, fun _ => composed.step (by simp), fun _ held => by rw [stabilising] at held; cases held⟩

/-! ### Operations -/

/-- Every axis's record has moved by one update at most. -/
def Moves (s t : State) : Prop := ∀ a, AxisMoved s a (s.axis a) (t.axis a)

theorem OutputsInLimits.of_moves {s t : State} (h : OutputsInLimits s) (moves : Moves s t) (profile : t.profile.active = s.profile.active) :
    OutputsInLimits t :=
  ⟨fun a => (moves a).limited.congr profile, by rw [State.page_congr profile]; exact h.order⟩

theorem OutputsInLimits.moves_kept {s t : State} (h : OutputsInLimits s) (run : KeptRun s t) : Moves s t :=
  fun a => .of_still (h.limited a) (run a).still

theorem OutputsInLimits.kept {s t : State} (h : OutputsInLimits s) (run : KeptRun s t) (profile : t.profile.active = s.profile.active) :
    OutputsInLimits t := h.of_moves (h.moves_kept run) profile

theorem OutputsInLimits.of_axes_eq {s t : State} (h : OutputsInLimits s) (axes : t.axes = s.axes)
    (profile : t.profile.active = s.profile.active) : OutputsInLimits t := h.kept (.of_axes_eq axes) profile

/-- A command on one axis, by what it makes of that axis's record. -/
theorem OutputsInLimits.moves_command {s t : State} {a : AxisId} {ax : Axis} (h : OutputsInLimits s)
    (axis : ∀ b, t.axis b = if b = a then ax else s.axis b) (moved : AxisMoved s a (s.axis a) ax) : Moves s t := fun b => by
  rw [axis]
  split
  next same => subst same; exact moved
  next => exact .of_still (h.limited b) (.refl _)

theorem OutputsInLimits.off_of_empty {s : State} (h : OutputsInLimits s) (empty : s.profileActive = false) (a : AxisId) :
    (s.axis a).state = .off := by
  by_contra on
  rw [(h.limited a on).1] at empty
  cases empty

theorem OutputsInLimits.moves_arrival {s : State} (h : OutputsInLimits s) (arr : Arrival) : Moves s (s.arrival arr) := by
  cases active : s.profileActive with
  | true =>
    intro a
    rw [State.axis_arrival active]
    exact axisMoved_arrived h.order (h.limited a) _ _ _
  | false => exact h.moves_kept (.of_axes_eq (State.arrival_axes_of_off (h.off_of_empty active) arr))

theorem OutputsInLimits.moves_recordIntent {s : State} (h : OutputsInLimits s) (active : s.profileActive = true) (a : AxisId) (addr : Addr)
    (data : Word) (lanes : Lanes) : Moves s (s.recordIntent a addr data lanes) :=
  h.moves_command (State.axis_recordIntent active a addr data lanes) (axisMoved_recorded h.order (h.limited a) _ _ _ _ _)

theorem OutputsInLimits.moves_startAxis {s : State} (h : OutputsInLimits s) {a : AxisId} (active : s.profileActive = true)
    (enabled : s.page.enabled a = true) (off : (s.axis a).state = .off) : Moves s (s.startAxis a) :=
  h.moves_command (s.axis_startAxis a) (axisMoved_started h.order active enabled off)

theorem OutputsInLimits.moves_stopAxis {s : State} (h : OutputsInLimits s) (active : s.profileActive = true) (a : AxisId) :
    Moves s (s.stopAxis a) := h.moves_command (State.axis_stopAxis active a) axisMoved_stopped

theorem OutputsInLimits.moves_releaseAxis {s : State} (h : OutputsInLimits s) {a : AxisId} (active : s.profileActive = true)
    (held : (s.axis a).state = .held) : Moves s (s.releaseAxis a) :=
  h.moves_command (State.axis_releaseAxis active a) (axisMoved_released h.order (h.limited a) held _)

theorem State.frameSeen_page (s : State) (line : Source) (f : List Byte) :
    (s.frameSeen line f).profile = s.profile ∧ (s.frameSeen line f).severity = s.severity := by
  unfold State.frameSeen
  simp only []
  split <;> simp

theorem OutputsInLimits.moves_acceptFrame {s : State} (h : OutputsInLimits s) (line : Source) (f : List Byte) :
    Moves s (s.acceptFrame line f) := by
  have seen := keptRun_frameSeen s line f
  obtain ⟨profile, severity⟩ := s.frameSeen_page line f
  have arrived : ∀ arr, Moves s ((s.frameSeen line f).arrival arr) := fun arr a => by
    obtain ⟨limited, step, frozen⟩ := ((h.kept seen (by rw [profile])).moves_arrival arr a).after (seen a).still
    rw [severity, State.page_congr (s := s) (by rw [profile])] at step
    exact ⟨limited.congr (by rw [profile]), step, frozen⟩
  rw [State.acceptFrame_eq]
  split
  · exact arrived _
  · exact h.moves_kept seen

/-! ### Applies (R159, R160) -/

theorem limitsInOrder_of_rangeFault_eq_none {p : Page} {strap : PageNo} (h : p.rangeFault strap = none) : LimitsInOrder p := by
  intro a enabled
  have passed : ∀ k ok, (k, !p.enabled a || ok) ∈ p.axisTests a → ok = true := fun k ok test => by
    simpa [enabled] using Page.all_rangeTests_of_rangeFault_eq_none h _ (p.axisTests_subset_rangeTests strap a test)
  have calm := passed (0x40 + 0x20 * a.val + 6) (withinInt 1 32767 (p.stepCalm a)) (by simp [Page.axisTests])
  have rough := passed (0x40 + 0x20 * a.val + 7) (withinInt 1 32767 (p.stepRough a)) (by simp [Page.axisTests])
  have limits := passed (0x40 + 0x20 * a.val + 8) (decide (p.softLo a < p.softHi a)) (by simp [Page.axisTests])
  simp only [withinInt, Bool.and_eq_true, decide_eq_true_eq] at calm rough limits
  exact ⟨limits, calm.1, rough.1⟩

theorem anyAxis_of {f : AxisId → Bool} {a : AxisId} (h : f a = true) : anyAxis f = true := by
  unfold anyAxis
  revert h
  match a with
  | 0 | 1 | 2 | 3 => intro h; simp [h]

/-- An accepted apply leaves an active axis enabled, with the limits it had: the fields are structural. -/
theorem State.limits_of_structuralOk {s : State} {p q : Page} (old : s.profile.active = some p) (ok : s.structuralOk q = true) {a : AxisId}
    (on : (s.axis a).state ≠ .off) (enabled : p.enabled a = true) :
    q.enabled a = true ∧ q.softLo a = p.softLo a ∧ q.softHi a = p.softHi a := by
  have someOn : s.allOff = false := by
    have any : anyAxis (fun b => s.axisActive b) = true := anyAxis_of (a := a) (by simp [State.axisActive, AxisState.active, on])
    simp [State.allOff, any]
  have same : axesDiffer p q = false := by
    simp only [State.structuralOk, someOn, old, Bool.false_or, Bool.not_eq_true', structuralDiffer, Bool.or_eq_false_iff] at ok
    obtain ⟨⟨⟨⟨⟨same, -⟩, -⟩, -⟩, -⟩, -⟩ := ok
    exact same
  have equal : (p.enabled a != q.enabled a || (q.enabled a && (p.softLo a != q.softLo a || p.softHi a != q.softHi a))) = false := by
    by_contra differs
    rw [Bool.not_eq_false] at differs
    rw [axesDiffer, anyAxis_of (f := fun a => p.enabled a != q.enabled a ||
      (q.enabled a && (p.softLo a != q.softLo a || p.softHi a != q.softHi a))) differs] at same
    cases same
  simp only [enabled, Bool.or_eq_false_iff, bne_eq_false_iff_eq, Bool.and_eq_false_iff] at equal
  obtain ⟨stays, limits⟩ := equal
  simp only [← stays, Bool.true_eq_false, false_or] at limits
  exact ⟨stays.symm, limits.1.symm, limits.2.symm⟩

/-- An accepted apply shows nothing on an axis. -/
theorem axisStill_takeUpProfile (s : State) (a : AxisId) : AxisStill (s.axis a) (s.takeUpProfile.axis a) := by
  have retabled : AxisStill (s.axis a) (s.retabled.axis a) := by
    rw [State.axis_retabled]
    exact .of_eq (by unfold retabledAxis; split <;> rfl) (by unfold retabledAxis; split <;> exact ⟨rfl, rfl, rfl⟩) (retabledAxis_state _ _ _)
  rw [State.takeUpProfile_eq]
  exact retabled.trans ((keptRun_takeUpFaults _ _).comp (keptRun_reviewSelection _) a).still

theorem OutputsInLimits.limits_takeUpProfile {s : State} (h : OutputsInLimits s) (applied : s.judgeApply.1 = .applied) {a : AxisId}
    (on : (s.axis a).state ≠ .off) :
    s.profile.shadow.enabled a = true ∧ s.profile.shadow.softLo a = s.page.softLo a ∧ s.profile.shadow.softHi a = s.page.softHi a := by
  obtain ⟨-, -, -, structural⟩ := State.judgeApply_applied applied
  obtain ⟨active, enabled, -, -⟩ := h.limited a on
  cases old : s.profile.active with
  | none => simp [State.profileActive, old] at active
  | some p =>
    have page : s.page = p := by simp [State.page, old]
    rw [page] at enabled ⊢
    exact State.limits_of_structuralOk old structural on enabled

theorem OutputsInLimits.takeUpProfile {s : State} (h : OutputsInLimits s) (applied : s.judgeApply.1 = .applied) :
    OutputsInLimits s.takeUpProfile := by
  refine ⟨fun a on => ?_, ?_⟩
  · have still := axisStill_takeUpProfile s a
    have was := mt still.off_iff.mpr on
    obtain ⟨enabled, lo, hi⟩ := h.limits_takeUpProfile applied was
    obtain ⟨-, -, low, high⟩ := h.limited a was
    rw [State.takeUpProfile_page, still.output, lo, hi]
    exact ⟨by simp [State.profileActive, State.takeUpProfile_active], enabled, low, high⟩
  · rw [State.takeUpProfile_page]
    exact limitsInOrder_of_rangeFault_eq_none (State.judgeApply_applied applied).1

theorem outputsInLimits_resetBlocks (s : State) (bias : PerSource Channels) (timecode : Timecode) :
    OutputsInLimits (s.resetBlocks bias timecode) := by
  refine ⟨fun a on => ?_, fun a enabled => ?_⟩
  · rw [State.resetBlocks_axis] at on
    exact (on rfl).elim
  · rw [State.resetBlocks_page, Page.zero_enabled] at enabled
    cases enabled

theorem keptByCommands_outputsInLimits : KeptByCommands OutputsInLimits where
  mark _ _ h := h
  raise := raise_of_report fun _ _ h => h
  clearEvents _ _ h := h
  profileUnit _ _ active h := h.of_axes_eq rfl active
  offered _ _ h := h
  enqueueWrite _ _ _ _ _ _ _ h := h
  enqueueRead _ _ _ _ _ h := h
  consumer _ _ _ h := h
  recordIntent _ a addr data lanes active _ h := h.of_moves (h.moves_recordIntent active a addr data lanes) (by simp)
  start _ _ active enabled off _ h := h.of_moves (h.moves_startAxis active enabled off) (by simp)
  stop _ a active _ h := h.of_moves (h.moves_stopAxis active a) (by simp)
  park _ a active _ h := h.kept (keptRun_hold active a .command) (by simp)
  release _ _ active held h := h.of_moves (h.moves_releaseAxis active held) (by simp)
  zero _ _ h := h.of_axes_eq (by simp) (by simp)
  excite _ _ h := h.of_axes_eq (by simp) (by simp)
  tcSet _ h := h.of_axes_eq (by simp) (by simp)
  sourceReturn s _ _ h := h.kept (keptRun_select s _) (by simp)
  takeUp _ _ applied h := h.takeUpProfile applied
  startUpApply _ _ _ _ _ _ _ applied h := h.takeUpProfile applied
  pending _ _ h := h
  reset s bias timecode _ _ := outputsInLimits_resetBlocks s bias timecode
  strapsRead _ _ _ h := h
  tick s h := h.kept (keptRun_tick s) rfl
  assembly _ _ _ h := h.of_axes_eq (by simp) (by simp)
  acceptFrame _ line f _ h := h.of_moves (h.moves_acceptFrame line f) (by simp)
  staleExpiry s src h := h.kept (keptRun_staleExpiry s src) (by simp)
  silenceExpiry s a h := h.kept (keptRun_silenceExpiry s a) (by simp)
  dwellExpiry s a h := h.kept (keptRun_dwellExpiry s a) (by simp)
  deadlineExpiry s a h := h.kept (keptRun_deadlineExpiry s a) (by simp)
  toggleLamp s h := by
    unfold State.toggleLamp
    split <;> exact h
  settleExpiry _ h := h.of_axes_eq (by simp) (by simp)
  exitHoldExpiry _ h := h.of_axes_eq (by simp) (by simp)
  frameLostExpiry _ h := h.of_axes_eq (by simp) (by simp)
  framePulse _ h := h.of_axes_eq (by simp) (by simp)
  headGranted s e rest _ _ h := h.kept (keptRun_grantEntry s e rest) (by simp)
  refreshGrant s h := h.kept (keptRun_grantRefresh s) (by simp)
  boostGrant _ h := h.of_axes_eq (by simp) (by simp)
  reportGrant _ h := h.of_axes_eq (by simp) (by simp)
  ringGrant _ h := h.of_axes_eq (by simp) (by simp)
  sweepGrant _ h := h.of_axes_eq (by simp) (by simp)
  writeReady _ h := h.of_axes_eq (by simp) (by simp)
  ringReady _ h := h.of_axes_eq (by simp) (by simp)
  sweepReady _ _ _ _ h := h
  readReady _ _ _ _ _ _ h := h

end Sys2Proof.Machine
end

section
/-! One command is one update of an output at most: what the acceptance of a transaction comes to before and after the one operation of a block
moves no axis. -/

namespace Sys2Proof.Machine

/-- Between the state before a command and one that it reaches, an axis that is active in both keeps its limits, moves its output by one update
at most, and shows nothing new where it is HELD in both. -/
def Updates (s t : State) : Prop := ∀ a, (s.axis a).state ≠ .off → (t.axis a).state ≠ .off →
  (t.page.softLo a = s.page.softLo a ∧ t.page.softHi a = s.page.softHi a) ∧
    ((t.axis a).output - (s.axis a).output).natAbs ≤ (s.page.stepLimit a s.severity.state).natAbs ∧
    ((s.axis a).state = .held → (t.axis a).state = .held → (t.axis a).output = (s.axis a).output ∧
      (t.axis a).correction = (s.axis a).correction ∧ (t.axis a).rate = (s.axis a).rate ∧ (t.axis a).limit = (s.axis a).limit)

/-- A command has moved no axis yet, and left the profile and the severity state. -/
structure AxesStill (s t : State) : Prop where
  profile : t.profile.active = s.profile.active
  severity : t.severity.state = s.severity.state
  axes : ∀ a, AxisStill (s.axis a) (t.axis a)

theorem AxesStill.refl (s : State) : AxesStill s s := ⟨rfl, rfl, fun _ => .refl _⟩

theorem AxesStill.step {s t u : State} (h : AxesStill s t) (profile : u.profile.active = t.profile.active)
    (severity : u.severity.state = t.severity.state) (axes : u.axes = t.axes) : AxesStill s u :=
  ⟨profile.trans h.profile, severity.trans h.severity, fun a => by rw [State.axis_congr axes]; exact h.axes a⟩

theorem AxesStill.inLimits {s t : State} (h : AxesStill s t) (limits : OutputsInLimits s) : OutputsInLimits t :=
  limits.of_moves (fun a => .of_still (limits.limited a) (h.axes a)) h.profile

theorem Updates.congr {s t u : State} (h : Updates s t) (profile : u.profile.active = t.profile.active) (axes : u.axes = t.axes) :
    Updates s u := fun a => by rw [State.axis_congr axes, State.page_congr profile]; exact h a

/-- One operation on axes that are still moves each by one update at most. -/
theorem AxesStill.updates {s t u : State} (h : AxesStill s t) (moves : Moves t u) (profile : u.profile.active = t.profile.active) :
    Updates s u := fun a on on' => by
  obtain ⟨-, step, frozen⟩ := (moves a).after (h.axes a)
  have page := State.page_congr h.profile
  rw [State.page_congr profile, page]
  rw [page, h.severity] at step
  exact ⟨⟨rfl, rfl⟩, step on on', frozen⟩

theorem AxesStill.updates_self {s t : State} (h : AxesStill s t) (limits : OutputsInLimits s) : Updates s t :=
  h.updates ((h.inLimits limits).moves_kept (.refl t)) rfl

theorem AxesStill.updates_kept {s t u : State} (h : AxesStill s t) (limits : OutputsInLimits s) (run : KeptRun t u)
    (profile : u.profile.active = t.profile.active) : Updates s u :=
  h.updates ((h.inLimits limits).moves_kept run) profile

theorem AxesStill.updates_takeUpProfile {s t : State} (h : AxesStill s t) (limits : OutputsInLimits s)
    (applied : t.judgeApply.1 = .applied) : Updates s t.takeUpProfile := fun a on _ => by
  have still := (h.axes a).trans (axisStill_takeUpProfile t a)
  obtain ⟨-, lo, hi⟩ := (h.inLimits limits).limits_takeUpProfile applied (mt (h.axes a).off_iff.mp on)
  rw [State.takeUpProfile_page, lo, hi, State.page_congr h.profile, still.output]
  exact ⟨⟨rfl, rfl⟩, by simp, fun _ _ => ⟨rfl, still.shown⟩⟩

theorem ledByAcceptance_updates {s : State} (limits : OutputsInLimits s) : LedByAcceptance (AxesStill s) (Updates s) where
  before :=
    { mark := fun _ _ h => h.step rfl rfl rfl
      raise := raise_of_report fun _ _ h => h.step rfl rfl rfl
      profileUnit := fun _ _ active h => h.step active rfl rfl
      enqueueWrite := fun _ _ _ _ _ _ _ h => h.step rfl rfl rfl
      enqueueRead := fun _ _ _ _ _ h => h.step rfl rfl rfl
      consumer := fun _ _ _ h => h.step rfl rfl rfl }
  after_mark _ _ h := h.congr rfl rfl
  after_raise := raise_of_report fun _ _ h => h.congr rfl rfl
  after_profileUnit _ _ active h := h.congr active rfl
  stays _ h := h.updates_self limits
  recordIntent _ a addr data lanes active _ h :=
    h.updates ((h.inLimits limits).moves_recordIntent active a addr data lanes) (by simp)
  start _ _ active enabled off _ h := h.updates ((h.inLimits limits).moves_startAxis active enabled off) (by simp)
  stop _ a active _ h := h.updates ((h.inLimits limits).moves_stopAxis active a) (by simp)
  park _ a active _ h := h.updates_kept limits (keptRun_hold active a .command) (by simp)
  release _ _ active held h := h.updates ((h.inLimits limits).moves_releaseAxis active held) (by simp)
  zero _ _ h := h.updates_kept limits (.of_axes_eq (by simp)) (by simp)
  excite _ _ h := h.updates_kept limits (.of_axes_eq (by simp)) (by simp)
  tcSet _ h := h.updates_kept limits (.of_axes_eq (by simp)) (by simp)
  sourceReturn t _ _ h := h.updates_kept limits (keptRun_select t _) (by simp)
  takeUp _ _ applied h := h.updates_takeUpProfile limits applied

/-- Every axis is OFF after a reset. -/
theorem updates_resetBlocks (s : State) (bias : PerSource Channels) (timecode : Timecode) : Updates s (s.resetBlocks bias timecode) :=
  fun a _ on => by
    rw [State.resetBlocks_axis] at on
    exact (on rfl).elim

theorem OutputsInLimits.updates_checkFrame {s : State} (limits : OutputsInLimits s) (line : Source) : Updates s (s.checkFrame line) := by
  have assembled : ∀ asm, Updates s (s.setAssembly line asm) := fun asm =>
    (AxesStill.refl s).updates_kept limits (.of_axes_eq (by simp)) (by simp)
  unfold State.checkFrame
  split
  · exact (AxesStill.refl s).updates_self limits
  · unfold State.judgeFrame
    split_ifs
    · exact assembled _
    · exact assembled _
    · exact (AxesStill.refl s).updates (limits.moves_acceptFrame line _) (by simp)

theorem OutputsInLimits.updates_completeSweepRead {s : State} (limits : OutputsInLimits s) : Updates s s.completeSweepRead := by
  have K := ledByAcceptance_updates limits
  have nothing := (AxesStill.refl s).updates_self limits
  unfold State.completeSweepRead
  split
  next t pos busy sweep =>
    have freed : AxesStill s s.freePort := (AxesStill.refl s).step rfl rfl rfl
    have placed : AxesStill s (s.freePort.placeSwept pos (s.ram.readWord t.addr)) := by
      unfold State.placeSwept
      split
      · exact freed
      · exact freed.step rfl rfl rfl
    cases t.kind with
    | sweepRead =>
      simp only []
      split
      · unfold State.endSweep
        simp only []
        split
        · exact K.applyRequest (placed.step (by simp) (by simp) (by simp)) fun _ _ applied h => h.updates_takeUpProfile limits applied
        · exact K.stays _ (placed.step (by simp) (by simp) (by simp))
      · exact K.stays _ (placed.step rfl rfl rfl)
    | controllerWrite | controllerRead _ | refresh _ | boost | report | ringWord _ => exact nothing
  next => exact nothing

/-- What stretched transactions come to when none is stretched. -/
theorem AxesStill.updates_admitted {s t : State} (h : AxesStill s t) (limits : OutputsInLimits s) (nothing : t.cport.offered = []) :
    Updates s t.admitStretched := by
  rw [State.admitStretched_nil nothing]
  exact h.updates_self limits

theorem OutputsInLimits.updates_grantHead {s : State} (limits : OutputsInLimits s) (nothing : s.cport.offered = []) :
    Updates s s.grantHead := by
  unfold State.grantHead
  (repeat' split)
  · exact (AxesStill.refl s).updates_self limits
  next e rest head =>
    rw [State.admitStretched_nil]
    · exact (AxesStill.refl s).updates_kept limits (keptRun_grantEntry s e rest) (by simp)
    · unfold State.grantEntry
      simp only []
      split <;> simp [nothing]
  · exact (AxesStill.refl s).updates_self limits

theorem OutputsInLimits.updates_completeRead {s : State} (limits : OutputsInLimits s) (nothing : s.cport.offered = []) :
    Updates s s.completeRead := by
  have idle := (AxesStill.refl s).updates_self limits
  unfold State.completeRead
  split
  next => exact idle
  next t _ =>
    cases t.kind with
    | controllerRead bind =>
      simp only [State.returnRead]
      split <;> exact AxesStill.updates_admitted ((AxesStill.refl s).step rfl rfl rfl) limits nothing
    | controllerWrite | refresh _ | boost | report | ringWord _ | sweepRead => exact idle

/-- With nothing stretched, every command is one update of each output at most. -/
theorem OutputsInLimits.updates_exec {s t : State} {c : Instr} (limits : OutputsInLimits s) (nothing : s.cport.offered = [])
    (he : exec c s = .next t) : Updates s t := by
  have still := AxesStill.refl s
  have idle := still.updates_self limits
  have kept : ∀ {u}, KeptRun s u → u.profile.active = s.profile.active → Updates s u := fun run => still.updates_kept limits run
  have quiet : ∀ {u}, u.axes = s.axes → u.profile.active = s.profile.active → Updates s u := fun axes => kept (.of_axes_eq axes)
  cases c <;> cases he
  case powerOnReset | lineReset => exact updates_resetBlocks s _ _
  case resetEnd straps =>
    unfold State.endReset
    split
    · exact (AxesStill.step (u := { s with resetHeld := false, strapPage := straps }) still rfl rfl rfl).updates_admitted limits nothing
    · exact idle
  case timeBasePulse => exact keeps_unless_reset idle fun _ => kept (keptRun_tick s) rfl
  case goodByte line _ | framingError line | byteTimeout line =>
    refine keeps_unless_reset idle fun _ => (limits.updates_checkFrame line).congr ?_ ?_ <;>
      simp [State.goodByte, State.framingError, State.byteTimeout]
  case inertialFrame line => exact keeps_unless_reset idle fun _ => limits.updates_checkFrame line
  case staleExpiry src => exact kept (keptRun_staleExpiry s src) (by simp)
  case silenceExpiry a => exact kept (keptRun_silenceExpiry s a) (by simp)
  case dwellExpiry a => exact kept (keptRun_dwellExpiry s a) (by simp)
  case refreshDeadlineExpiry a => exact kept (keptRun_deadlineExpiry s a) (by simp)
  case statBlinkToggle =>
    unfold State.toggleLamp
    split
    · exact quiet rfl rfl
    · exact idle
  case settleExpiry => exact quiet (u := s.settleExpiry) (by simp) (by simp)
  case exitHoldExpiry => exact quiet (u := s.exitHoldExpiry) (by simp) (by simp)
  case frameLostExpiry => exact quiet (u := s.frameLostExpiry) (by simp) (by simp)
  case framePulse => exact quiet (u := s.framePulse) (by simp) (by simp)
  case start | stop | park | release | zero | excite | tcSet | sourceReturn | unknownCommand | apply | intentWrite | ringConsumer
      | controllerWrite | controllerRead => exact (ledByAcceptance_updates limits).offer still nothing _ (quiet rfl rfl)
  case queueHeadGrant => exact limits.updates_grantHead nothing
  case refreshGrant => exact kept (keptRun_grantRefresh s) (by simp)
  case boostGrant => exact quiet (u := s.grantBoost) (by simp) (by simp)
  case reportWordGrant => exact quiet (u := s.grantReport) (by simp) (by simp)
  case ringWordGrant => exact quiet (u := s.grantRing) (by simp) (by simp)
  case sweepReadGrant => exact quiet (u := s.grantSweep) (by simp) (by simp)
  case writeComplete => exact quiet (u := s.completeWrite) (by simp) (by simp)
  case ringWordDone => exact quiet (u := s.completeRingWord) (by simp) (by simp)
  case sweepReadDone => exact limits.updates_completeSweepRead
  case readReturn => exact limits.updates_completeRead nothing
  case eventPending =>
    change Updates s s.completeEventRead
    unfold State.completeEventRead
    (repeat' split)
    · exact idle
    · exact limits.updates_completeRead nothing
    · exact idle

/-- Settles O51: each composition clamps into the limits, which an accepted apply may change only of an axis that is OFF; a HELD axis composes
nothing until its release. -/
theorem outputsStayWithinTheSoftLimits : Obligations.OutputsStayWithinTheSoftLimits := by
  refine ⟨fun _ _ => keptByCommands_outputsInLimits.step, fun c s t a limits he nothing on on' => ?_⟩
  obtain ⟨⟨lo, hi⟩, -, frozen⟩ := limits.updates_exec nothing he a on on'
  exact ⟨lo, hi, frozen⟩

/-- Settles O52: a command composes each axis once at most, toward its value by no more than the step limit, and the clamp into the limits that
the output lay in only shortens the step. -/
theorem updatesStayWithinTheStepLimit : Obligations.UpdatesStayWithinTheStepLimit := fun _ _ _ a limits nothing he on on' => by
  obtain ⟨-, step, -⟩ := limits.updates_exec nothing he a on on'
  exact step

end Sys2Proof.Machine
end

section
/-! The cause sets (R69): an axis is HELD exactly while its cause set is not empty, since every operation moves the two together. -/

namespace Sys2Proof.Machine

/-- The invariant at one record. -/
def Axis.CausedIffHeld (ax : Axis) : Prop := ax.state = .held ↔ ax.causes ≠ .empty

theorem Axis.CausedIffHeld.of_eq {ax ax' : Axis} (h : ax.CausedIffHeld) (state : ax'.state = ax.state) (causes : ax'.causes = ax.causes) :
    ax'.CausedIffHeld := by rw [Axis.CausedIffHeld, state, causes]; exact h

theorem Axis.causedIffHeld_of_empty {ax : Axis} (state : ax.state ≠ .held) (causes : ax.causes = .empty) : ax.CausedIffHeld :=
  ⟨fun held => (state held).elim, fun caused => (caused causes).elim⟩

/-- No axis's state or cause set has changed. -/
def StatesStand (s t : State) : Prop := ∀ a, (t.axis a).state = (s.axis a).state ∧ (t.axis a).causes = (s.axis a).causes

theorem StatesStand.of_axes_eq {s t : State} (axes : t.axes = s.axes) : StatesStand s t := fun a => by
  rw [State.axis_congr axes]; exact ⟨rfl, rfl⟩

theorem StatesStand.comp {s t u : State} (k : StatesStand t u) (h : StatesStand s t) : StatesStand s u := fun a =>
  ⟨(k a).1.trans (h a).1, (k a).2.trans (h a).2⟩

theorem statesStand_setAxis {s : State} {a : AxisId} {ax : Axis} (state : ax.state = (s.axis a).state)
    (causes : ax.causes = (s.axis a).causes) : StatesStand s (s.setAxis a ax) := fun b => by
  rw [State.axis_setAxis]
  split
  next same => subst same; exact ⟨state, causes⟩
  next => exact ⟨rfl, rfl⟩

theorem statesStand_setAxisFlag (s : State) (c : AxisClass) (a : AxisId) (on : Bool) : StatesStand s (s.setAxisFlag c a on) := by
  cases active : s.profileActive with
  | true =>
    intro b
    rw [State.axis_setAxisFlag active]
    split
    next same => subst same; cases c <;> exact ⟨rfl, rfl⟩
    next => exact ⟨rfl, rfl⟩
  | false => exact .of_axes_eq (by simp [State.setAxisFlag, active])

theorem statesStand_compose (s : State) (a : AxisId) : StatesStand s (s.compose a) := by
  have measured : ∀ t : State, StatesStand t (t.measureDwell a) := fun t => by
    unfold State.measureDwell
    split_ifs
    · exact statesStand_setAxis rfl rfl
    · exact .of_axes_eq rfl
    · exact .comp (statesStand_setAxisFlag _ _ _ _) (statesStand_setAxis rfl rfl)
  refine .comp (measured _) fun b => ?_
  rw [State.axis_markIf, State.axis_mark, State.axis_mark, State.axis_setAxis]
  split
  next same => subst same; exact ⟨rfl, rfl⟩
  next => exact ⟨rfl, rfl⟩

theorem statesStand_arrivalAt (s : State) (a : AxisId) : StatesStand s (s.arrivalAt a) := by
  have marked : ∀ t : State, StatesStand t (t.markRefresh a) := fun t => by
    unfold State.markRefresh
    split
    · exact .of_axes_eq rfl
    · exact statesStand_setAxis rfl rfl
  unfold State.arrivalAt State.countArrival
  split_ifs
  · exact .comp (marked _) (.comp (statesStand_setAxis rfl rfl) (statesStand_compose s a))
  · exact .comp (statesStand_setAxis rfl rfl) (statesStand_compose s a)
  · exact .of_axes_eq rfl

theorem statesStand_arrival (s : State) (arr : Arrival) : StatesStand s (s.arrival arr) := by
  have integrated : StatesStand s (forAxes (fun a t => t.integrateAxis arr (s.axisRate arr a) a) s) :=
    forAxes_keeps (fun a t => .comp (by
      unfold State.integrateAxis
      split
      · exact statesStand_setAxis rfl rfl
      · exact .of_axes_eq rfl)) (.of_axes_eq rfl)
  exact .comp (.of_axes_eq (s.arrival_axes arr)) (forAxes_keeps (fun a t => .comp (statesStand_arrivalAt t a)) integrated)

/-! ### Every command -/

theorem HeldIffCaused.axis {s : State} (h : HeldIffCaused s) (a : AxisId) : (s.axis a).CausedIffHeld := h a

theorem HeldIffCaused.stands {s t : State} (h : HeldIffCaused s) (k : StatesStand s t) : HeldIffCaused t :=
  fun a => (h.axis a).of_eq (k a).1 (k a).2

theorem HeldIffCaused.of_axes_eq {s t : State} (h : HeldIffCaused s) (axes : t.axes = s.axes) : HeldIffCaused t := h.stands (.of_axes_eq axes)

theorem HeldIffCaused.kept {s t : State} (h : HeldIffCaused s) (run : KeptRun s t) : HeldIffCaused t := fun a => (run a).caused (h a)

/-- A command on one axis, by what it makes of that axis's record. -/
theorem HeldIffCaused.command {s t : State} {a : AxisId} {ax : Axis} (h : HeldIffCaused s)
    (axis : ∀ b, t.axis b = if b = a then ax else s.axis b) (caused : ax.CausedIffHeld) : HeldIffCaused t := fun b => by
  rw [axis]
  split
  · exact caused
  · exact h b

theorem HeldIffCaused.recordIntent {s : State} (h : HeldIffCaused s) (active : s.profileActive = true) (a : AxisId) (addr : Addr)
    (data : Word) (lanes : Lanes) : HeldIffCaused (s.recordIntent a addr data lanes) := by
  refine h.command (State.axis_recordIntent active a addr data lanes) ?_
  split
  next composes =>
    refine Axis.causedIffHeld_of_empty (by simp [composedAxis]) ?_
    by_contra caused
    exact AxisState.ne_held_of_composes composes ((h a).mpr caused)
  next => exact (h.axis a).of_eq rfl rfl

theorem refreshMarked_state (ax : Axis) : (refreshMarked ax).state = ax.state ∧ (refreshMarked ax).causes = ax.causes := by
  unfold refreshMarked
  split <;> exact ⟨rfl, rfl⟩

theorem HeldIffCaused.takeUpProfile {s : State} (h : HeldIffCaused s) : HeldIffCaused s.takeUpProfile := by
  have retabled : HeldIffCaused s.retabled := fun a => by
    rw [State.axis_retabled]
    exact (h.axis a).of_eq (retabledAxis_state _ _ _) (by unfold retabledAxis; split <;> rfl)
  rw [State.takeUpProfile_eq]
  exact retabled.kept ((keptRun_takeUpFaults _ _).comp (keptRun_reviewSelection _))

theorem keptByCommands_heldIffCaused : KeptByCommands HeldIffCaused where
  mark _ _ h := h
  raise := raise_of_report fun _ _ h => h
  clearEvents _ _ h := h
  profileUnit _ _ _ h := h
  offered _ _ h := h
  enqueueWrite _ _ _ _ _ _ _ h := h
  enqueueRead _ _ _ _ _ h := h
  consumer _ _ _ h := h
  recordIntent _ a addr data lanes active _ h := h.recordIntent active a addr data lanes
  start s a _ _ _ _ h := h.command (s.axis_startAxis a)
    (Axis.causedIffHeld_of_empty (by simp) ((refreshMarked_state _).2.trans rfl))
  stop _ a active _ h := h.command (State.axis_stopAxis active a) (Axis.causedIffHeld_of_empty (by simp [stoppedAxis]) rfl)
  park _ a active _ h := h.kept (keptRun_hold active a .command)
  release _ a active _ h := h.command (State.axis_releaseAxis active a)
    (Axis.causedIffHeld_of_empty (by simp [(refreshMarked_state _).1, composedAxis]) ((refreshMarked_state _).2.trans rfl))
  zero _ _ h := h.of_axes_eq (by simp)
  excite _ _ h := h.of_axes_eq (by simp)
  tcSet _ h := h.of_axes_eq (by simp)
  sourceReturn s _ _ h := h.kept (keptRun_select s _)
  takeUp _ _ _ h := h.takeUpProfile
  startUpApply _ _ _ _ _ _ _ _ h := h.takeUpProfile
  pending _ _ h := h
  reset s bias timecode _ _ := fun a => by
    rw [State.resetBlocks_axis]
    exact Axis.causedIffHeld_of_empty (by simp [Axis.reset]) rfl
  strapsRead _ _ _ h := h
  tick s h := h.kept (keptRun_tick s)
  assembly _ _ _ h := h.of_axes_eq (by simp)
  acceptFrame s line f _ h := by
    rw [State.acceptFrame_eq]
    split
    · exact (h.kept (keptRun_frameSeen s line f)).stands (statesStand_arrival _ _)
    · exact h.kept (keptRun_frameSeen s line f)
  staleExpiry s src h := h.kept (keptRun_staleExpiry s src)
  silenceExpiry s a h := h.kept (keptRun_silenceExpiry s a)
  dwellExpiry s a h := h.kept (keptRun_dwellExpiry s a)
  deadlineExpiry s a h := h.kept (keptRun_deadlineExpiry s a)
  toggleLamp s h := by
    unfold State.toggleLamp
    split <;> exact h
  settleExpiry _ h := h.of_axes_eq (by simp)
  exitHoldExpiry _ h := h.of_axes_eq (by simp)
  frameLostExpiry _ h := h.of_axes_eq (by simp)
  framePulse _ h := h.of_axes_eq (by simp)
  headGranted s e rest _ _ h := h.kept (keptRun_grantEntry s e rest)
  refreshGrant s h := h.kept (keptRun_grantRefresh s)
  boostGrant _ h := h.of_axes_eq (by simp)
  reportGrant _ h := h.of_axes_eq (by simp)
  ringGrant _ h := h.of_axes_eq (by simp)
  sweepGrant _ h := h.of_axes_eq (by simp)
  writeReady _ h := h.of_axes_eq (by simp)
  ringReady _ h := h.of_axes_eq (by simp)
  sweepReady _ _ _ _ h := h
  readReady _ _ _ _ _ _ h := h

/-- Settles O49: a hold adds a cause with the state, and only START, STOP and RELEASE take the state with the causes emptied. -/
theorem heldExactlyWhileCaused : Obligations.HeldExactlyWhileCaused := fun _ _ => keptByCommands_heldIffCaused.step

end Sys2Proof.Machine
end

section
/-! The ZERO capture (R33 to R38): it runs on the selected source, and its result shows RUNNING exactly while it runs. -/

namespace Sys2Proof.Machine

theorem CaptureInOrder.congr {s t : State} (h : CaptureInOrder s) (capture : t.capture = s.capture) (result : t.zeroResult = s.zeroResult)
    (selected : t.selected = s.selected) : CaptureInOrder t := by rw [CaptureInOrder, capture, result, selected]; exact h

/-- With no capture running only the shown result matters. -/
theorem captureInOrder_of_idle {s : State} (idle : s.capture.state = .idle) (shown : ∀ src, s.zeroResult ≠ .running src) :
    CaptureInOrder s := ⟨fun _ => shown, fun running => by rw [idle] at running; cases running⟩

theorem State.endCapture_capture (s : State) (c : Capture) (r : ZeroResult) :
    (s.endCapture c r).capture.state = .idle ∧ (s.endCapture c r).zeroResult = r := by simp [State.endCapture]

theorem captureInOrder_endCapture (s : State) (c : Capture) {r : ZeroResult} (ended : ∀ src, r ≠ .running src) :
    CaptureInOrder (s.endCapture c r) := by
  obtain ⟨idle, result⟩ := s.endCapture_capture c r
  exact captureInOrder_of_idle idle (by rw [result]; exact ended)

theorem CaptureInOrder.select {s : State} (h : CaptureInOrder s) (new : Option Source) : CaptureInOrder (s.select new) := by
  by_cases same : s.selected = new
  · subst same; rw [State.select_same]; exact h
  · have aborted : CaptureInOrder (({ s with selected := new }.raise .sourceSwitch).mark .sourceState).abortCapture := by
      unfold State.abortCapture
      split
      next idle => exact captureInOrder_of_idle idle fun src shown => h.1 (by simpa using idle) src (by simpa using shown)
      next => exact captureInOrder_endCapture _ _ (by simp)
    unfold State.select
    rw [if_neg same]
    simp only []
    refine aborted.congr ?_ ?_ ?_ <;> split <;> simp

theorem CaptureInOrder.reviewSelection {s : State} (h : CaptureInOrder s) : CaptureInOrder s.reviewSelection := by
  unfold State.reviewSelection
  split
  · exact h.select _
  · exact h

theorem CaptureInOrder.captureStep {s : State} (h : CaptureInOrder s) (arr : Arrival) : CaptureInOrder (s.captureStep arr) := by
  unfold State.captureStep
  split
  · exact h
  next runs =>
    have running : s.capture.state = .running := by
      cases state : s.capture.state with
      | idle => exact (runs (.inl state)).elim
      | running => rfl
    obtain ⟨selected, count, shown⟩ := h.2 running
    simp only []
    split_ifs with moving full
    · exact captureInOrder_endCapture _ _ (by simp)
    · exact captureInOrder_endCapture _ _ (by simp)
    · exact ⟨fun idle => (by rw [running] at idle; cases idle), fun _ => ⟨selected, by simp only []; omega, shown⟩⟩

theorem CaptureInOrder.arrival {s : State} (h : CaptureInOrder s) (arr : Arrival) : CaptureInOrder (s.arrival arr) :=
  CaptureInOrder.captureStep (h.congr (by simp [forAxes]) (by simp [forAxes]) (by simp [forAxes])) arr

theorem CaptureInOrder.acceptFrame {s : State} (h : CaptureInOrder s) (line : Source) (f : List Byte) : CaptureInOrder (s.acceptFrame line f) := by
  have seen : CaptureInOrder (s.frameSeen line f) := by
    unfold State.frameSeen
    simp only []
    split
    · exact h.congr (by simp) (by simp) (by simp)
    · exact (h.congr (by simp) (by simp) (by simp)).reviewSelection
  rw [State.acceptFrame_eq]
  split
  · exact seen.arrival _
  · exact seen

theorem CaptureInOrder.staleExpiry {s : State} (h : CaptureInOrder s) (src : Source) : CaptureInOrder (s.staleExpiry src) := by
  unfold State.staleExpiry
  simp only []
  split_ifs
  · exact h
  · exact (h.congr (by simp) (by simp) (by simp)).select _
  · exact h.congr (by simp) (by simp) (by simp)

theorem CaptureInOrder.takeUpProfile {s : State} (h : CaptureInOrder s) : CaptureInOrder s.takeUpProfile := by
  have retabled : CaptureInOrder s.retabled := h.congr (by simp) (by simp) (by simp)
  exact retabled.reviewSelection.congr (by simp [State.takeUpProfile_eq]) (by simp [State.takeUpProfile_eq])
    (by simp [State.takeUpProfile_eq])

theorem CaptureInOrder.zero {s : State} (h : CaptureInOrder s) : CaptureInOrder (zeroCommand s).2 := by
  unfold zeroCommand
  (repeat' split)
  · exact h
  · exact h
  next src selected _ => exact ⟨by simp, fun _ => ⟨selected, by simp, by simp⟩⟩

theorem keptByCommands_captureInOrder : KeptByCommands CaptureInOrder where
  mark _ _ h := h
  raise := raise_of_report fun _ _ h => h
  clearEvents _ _ h := h
  profileUnit _ _ _ h := h
  offered _ _ h := h
  enqueueWrite _ _ _ _ _ _ _ h := h
  enqueueRead _ _ _ _ _ h := h
  consumer _ _ _ h := h
  recordIntent _ _ _ _ _ _ _ h := h.congr (by simp) (by simp) (by simp)
  start _ _ _ _ _ _ h := h.congr (by simp) (by simp) (by simp)
  stop _ _ _ _ h := h.congr (by simp) (by simp) (by simp)
  park _ _ _ _ h := h.congr (by simp) (by simp) (by simp)
  release _ _ _ _ h := h.congr (by simp) (by simp) (by simp)
  zero _ _ h := h.zero
  excite _ _ h := h.congr (by simp) (by simp) (by simp)
  tcSet _ h := h.congr (by simp) (by simp) (by simp)
  sourceReturn _ _ _ h := h.select _
  takeUp _ _ _ h := h.takeUpProfile
  startUpApply _ _ _ _ _ _ _ _ h := h.takeUpProfile
  pending _ _ h := h
  reset _ _ _ _ _ := captureInOrder_of_idle rfl fun _ shown => by cases shown
  strapsRead _ _ _ h := h
  tick _ h := h
  assembly _ _ _ h := h.congr (by simp) (by simp) (by simp)
  acceptFrame _ line f _ h := h.acceptFrame line f
  staleExpiry _ src h := h.staleExpiry src
  silenceExpiry _ _ h := h.congr (by simp) (by simp) (by simp)
  dwellExpiry _ _ h := h.congr (by simp) (by simp) (by simp)
  deadlineExpiry _ _ h := h.congr (by simp) (by simp) (by simp)
  toggleLamp s h := by
    unfold State.toggleLamp
    split <;> exact h
  settleExpiry _ h := h.congr (by simp) (by simp) (by simp)
  exitHoldExpiry _ h := h.congr (by simp) (by simp) (by simp)
  frameLostExpiry _ h := h.congr (by simp) (by simp) (by simp)
  framePulse _ h := h.congr (by simp) (by simp) (by simp)
  headGranted _ _ _ _ _ h := h.congr (by simp) (by simp) (by simp)
  refreshGrant _ h := h.congr (by simp) (by simp) (by simp)
  boostGrant _ h := h.congr (by simp) (by simp) (by simp)
  reportGrant _ h := h.congr (by simp) (by simp) (by simp)
  ringGrant _ h := h.congr (by simp) (by simp) (by simp)
  sweepGrant _ h := h.congr (by simp) (by simp) (by simp)
  writeReady _ h := h.congr (by simp) (by simp) (by simp)
  ringReady _ h := h.congr (by simp) (by simp) (by simp)
  sweepReady _ _ _ _ h := h
  readReady _ _ _ _ _ _ h := h

/-- Settles O55: a burst is aborted wherever its axis leaves STABILISING or the selection becomes NONE, and a capture wherever the selection
changes; each ends with its result. -/
theorem burstAndCaptureStayInOrder : Obligations.BurstAndCaptureStayInOrder :=
  ⟨fun _ _ => keptByCommands_burstOnStabilising.step, fun _ _ => keptByCommands_captureInOrder.step⟩

end Sys2Proof.Machine
end

section
/-! The timecode (R145 to R148): while VALID it is in range at the rate in force, and so is a pending set. -/

namespace Sys2Proof.Machine

theorem Time.inRange_iff (t : Time) (rate : Nat) :
    t.inRange rate = true ↔ t.hours ≤ 23 ∧ t.minutes ≤ 59 ∧ t.seconds ≤ 59 ∧ t.frames < rate := by
  simp [Time.inRange, and_assoc]

theorem FrameRate.perSecond_pos (r : FrameRate) : 0 < r.perSecond := by cases r <;> decide

/-- The carries keep a time in range (R145). -/
theorem Time.next_inRange {t : Time} {rate : Nat} (h : t.inRange rate = true) (positive : 0 < rate) : (t.next rate).inRange rate = true := by
  rw [Time.inRange_iff] at h ⊢
  obtain ⟨hours, minutes, seconds, frames⟩ := h
  unfold Time.next
  split_ifs <;> refine ⟨?_, ?_, ?_, ?_⟩ <;> simp only [] <;> omega

/-- Only the timecode matters. -/
theorem TimecodeInRange.congr {s t : State} (h : TimecodeInRange s) (time : t.timecode.time = s.timecode.time)
    (valid : t.timecode.valid = s.timecode.valid) (pendingSet : t.timecode.pendingSet = s.timecode.pendingSet)
    (rate : t.timecode.rate = s.timecode.rate) : TimecodeInRange t := by
  rw [TimecodeInRange, time, valid, pendingSet, rate]; exact h

theorem TimecodeInRange.of_timecode {s t : State} (h : TimecodeInRange s) (timecode : t.timecode = s.timecode) : TimecodeInRange t :=
  h.congr (by rw [timecode]) (by rw [timecode]) (by rw [timecode]) (by rw [timecode])

theorem TimecodeInRange.pulseTimecode {s : State} (h : TimecodeInRange s) : TimecodeInRange s.pulseTimecode := by
  obtain ⟨inRange, waiting⟩ := h
  unfold State.pulseTimecode State.markTime
  split
  next p pending => exact ⟨fun _ => by simpa using waiting p pending, by simp⟩
  next none =>
    split
    next valid => exact ⟨fun _ => Time.next_inRange (inRange valid) (FrameRate.perSecond_pos _), by simp [none]⟩
    next => exact ⟨inRange, waiting⟩

theorem TimecodeInRange.framePulse {s : State} (h : TimecodeInRange s) : TimecodeInRange s.framePulse := by
  have measured : TimecodeInRange s.pulseFrameLost := by
    unfold State.pulseFrameLost
    split
    · exact h
    · exact h.congr (by simp) (by simp) (by simp) (by simp)
  exact measured.pulseTimecode.of_timecode (by simp [State.framePulse])

theorem TimecodeInRange.tcSet {s : State} (h : TimecodeInRange s) : TimecodeInRange (tcSetCommand s).2 := by
  unfold tcSetCommand
  simp only []
  split
  · exact h
  next inRange =>
    refine ⟨by simpa using h.1, fun p pending => ?_⟩
    simp only [State.markIf_frame, Option.some.injEq] at pending ⊢
    subst pending
    simpa using inRange

/-- Another rate than that in force leaves no time (R148). -/
theorem TimecodeInRange.takeUpRate {s : State} (h : TimecodeInRange s) : TimecodeInRange s.takeUpRate := by
  unfold State.takeUpRate
  (repeat' split)
  · exact h
  · exact h
  · exact ⟨by simp, by simp⟩

theorem TimecodeInRange.takeUpProfile {s : State} (h : TimecodeInRange s) : TimecodeInRange s.takeUpProfile := by
  have before : TimecodeInRange (((s.activateProfile).takeUpTable s.profile.active).clearRefreshCounts.takeUpBoost s.profile.active) :=
    h.of_timecode (by simp)
  have retabled : TimecodeInRange s.retabled := before.takeUpRate.of_timecode (by simp [State.retabled])
  rw [State.takeUpProfile_eq]
  exact retabled.of_timecode (by simp)

theorem timecodeInRange_resetBlocks {s : State} (h : TimecodeInRange s) (bias : PerSource Channels) {timecode : Timecode}
    (kept : timecode = .powerOn ∨ timecode = s.timecode.lineReset) : TimecodeInRange (s.resetBlocks bias timecode) := by
  have read : (s.resetBlocks bias timecode).timecode = timecode := rfl
  rw [TimecodeInRange, read]
  obtain rfl | rfl := kept
  · exact ⟨by simp [Timecode.powerOn], by simp [Timecode.powerOn]⟩
  · exact ⟨h.1, by simp [Timecode.lineReset]⟩

theorem keptByCommands_timecodeInRange : KeptByCommands TimecodeInRange where
  mark _ _ h := h
  raise := raise_of_report fun _ _ h => h
  clearEvents _ _ h := h
  profileUnit _ _ _ h := h
  offered _ _ h := h
  enqueueWrite _ _ _ _ _ _ _ h := h
  enqueueRead _ _ _ _ _ h := h
  consumer _ _ _ h := h
  recordIntent _ _ _ _ _ _ _ h := h.of_timecode (by simp)
  start _ _ _ _ _ _ h := h.of_timecode (by simp)
  stop _ _ _ _ h := h.of_timecode (by simp)
  park _ _ _ _ h := h.of_timecode (by simp)
  release _ _ _ _ h := h.of_timecode (by simp)
  zero _ _ h := h.of_timecode (by simp)
  excite _ _ h := h.of_timecode (by simp)
  tcSet _ h := h.tcSet
  sourceReturn _ _ _ h := h.of_timecode (by simp)
  takeUp _ _ _ h := h.takeUpProfile
  startUpApply _ _ _ _ _ _ _ _ h := h.takeUpProfile
  pending _ _ h := h
  reset _ bias _ kept h := timecodeInRange_resetBlocks h bias kept
  strapsRead _ _ _ h := h
  tick _ h := h
  assembly _ _ _ h := h.of_timecode (by simp)
  acceptFrame _ _ _ _ h := h.of_timecode (by simp)
  staleExpiry _ _ h := h.of_timecode (by simp)
  silenceExpiry _ _ h := h.of_timecode (by simp)
  dwellExpiry _ _ h := h.of_timecode (by simp)
  deadlineExpiry _ _ h := h.of_timecode (by simp)
  toggleLamp s h := by
    unfold State.toggleLamp
    split <;> exact h
  settleExpiry _ h := h.of_timecode (by simp)
  exitHoldExpiry _ h := h.of_timecode (by simp)
  frameLostExpiry s h := by
    unfold State.frameLostExpiry
    split
    · exact h
    · exact h.congr (by simp) (by simp) (by simp) (by simp)
  framePulse _ h := h.framePulse
  headGranted _ _ _ _ _ h := h.of_timecode (by simp)
  refreshGrant _ h := h.of_timecode (by simp)
  boostGrant _ h := h.of_timecode (by simp)
  reportGrant _ h := h.of_timecode (by simp)
  ringGrant _ h := h.of_timecode (by simp)
  sweepGrant _ h := h.of_timecode (by simp)
  writeReady _ h := h.of_timecode (by simp)
  ringReady _ h := h.of_timecode (by simp)
  sweepReady _ _ _ _ h := h
  readReady _ _ _ _ _ _ h := h

/-- Settles O47: the carries keep the range, TC_SET asks it of a pending set, and another rate invalidates both. -/
theorem timecodeStaysInRange : Obligations.TimecodeStaysInRange := fun _ _ => keptByCommands_timecodeInRange.step

end Sys2Proof.Machine
end

section
/-! The controller queue (R99 to R101, R104): its bounds, the starvation count, and what is stretched at a closed C-port. -/

namespace Sys2Proof.Machine

/-! ### The queue's bounds -/

theorem QueueInBounds.congr {s t : State} (h : QueueInBounds s) (cport : t.cport.queue = s.cport.queue)
    (starvation : t.mport.starvation = s.mport.starvation) : QueueInBounds t := by rw [QueueInBounds, cport, starvation]; exact h

theorem QueueInBounds.of_ports {s t : State} (h : QueueInBounds s) (cport : t.cport = s.cport) (mport : t.mport = s.mport) :
    QueueInBounds t := h.congr (by rw [cport]) (by rw [mport])

theorem State.cportOpen_iff (s : State) :
    s.cportOpen = true ↔ s.resetHeld = false ∧ s.cport.queue.length < 12 ∧ (∀ e ∈ s.cport.queue, e.isRead = false) ∧
      s.mport.busy.any MTxn.isControllerRead = false := by
  simp [State.cportOpen, State.readInFlight, and_assoc]

/-- An open C-port has room, and no read waits behind which the new entry would stand. -/
theorem QueueInBounds.enqueue {s : State} (h : QueueInBounds s) (isOpen : s.cportOpen = true) (t : BusTxn) (bind : Option AxisId) :
    QueueInBounds (s.enqueue t bind) := by
  obtain ⟨-, room, writes, -⟩ := s.cportOpen_iff.mp isOpen
  obtain ⟨-, -, starvation⟩ := h
  refine ⟨?_, ?_, starvation⟩
  · simp only [State.enqueue, List.length_append, List.length_singleton]
    omega
  · simpa [State.enqueue] using writes

theorem State.rebindEntry_isRead (s : State) (e : QEntry) : (s.rebindEntry e).isRead = e.isRead := by
  unfold State.rebindEntry
  (repeat' split) <;> rfl

theorem QueueInBounds.takeUpProfile {s : State} (h : QueueInBounds s) : QueueInBounds s.takeUpProfile := by
  have table : QueueInBounds (s.activateProfile.takeUpTable s.profile.active) := by
    obtain ⟨length, writes, starvation⟩ := h
    unfold State.takeUpTable
    split
    · refine ⟨?_, ?_, by simpa using starvation⟩
      · simpa [State.rebindQueue] using length
      · simpa [State.rebindQueue, ← List.map_dropLast, State.rebindEntry_isRead] using writes
    · exact ⟨by simpa using length, by simpa using writes, by simpa using starvation⟩
  have rated : QueueInBounds ((((s.activateProfile).takeUpTable s.profile.active).clearRefreshCounts.takeUpBoost s.profile.active).takeUpRate) :=
    table.of_ports (by simp) (by simp)
  have retabled : QueueInBounds s.retabled := by
    unfold State.retabled State.takeUpRing
    split
    · exact rated
    · exact rated.congr (by simp) (by simp [State.restartRing])
  rw [State.takeUpProfile_eq]
  exact retabled.of_ports (by simp) (by simp)

/-- A head goes while the count is below 4 or no own request waits (R104). -/
theorem QueueInBounds.grantEntry {s : State} (h : QueueInBounds s) {e : QEntry} {rest : List QEntry} (grants : s.grantsHead = true)
    (head : s.cport.queue = e :: rest) : QueueInBounds (s.grantEntry e rest) := by
  obtain ⟨length, writes, starvation⟩ := h
  have granted : QueueInBounds { s with
      cport := { s.cport with queue := rest }
      mport := { s.mport with busy := some (s.carried e), starvation := s.headStarvation } } := by
    rw [head] at length writes
    refine ⟨by simp at length ⊢; omega, fun e' he' => ?_, ?_⟩
    · cases rest with
      | nil => cases he'
      | cons e'' rest => exact writes e' (List.mem_cons_of_mem _ he')
    · simp only [State.grantsHead, Bool.and_eq_true, Bool.or_eq_true, decide_eq_true_eq] at grants
      obtain ⟨-, turn⟩ := grants
      simp only [State.headStarvation]
      split
      next waits =>
        obtain none | below := turn
        · rw [Option.isNone_iff_eq_none] at none
          rw [none] at waits
          cases waits
        · omega
      next => omega
  unfold State.grantEntry
  simp only []
  split
  · exact granted.of_ports (by simp) (by simp)
  · exact granted

theorem QueueInBounds.ownGrant {s : State} (h : QueueInBounds s) (r : OwnRequest) : QueueInBounds (r.grant s) := by
  obtain ⟨length, writes, starvation⟩ := h
  obtain ⟨-, -, -, -, cport, -, -⟩ := r.grant_frame s
  refine ⟨by rwa [cport], by rwa [cport], ?_⟩
  have begun : ∀ (t : State) w, (t.beginOwn w).mport.starvation ≤ 4 := fun t w => by simp [State.beginOwn]
  cases grants : s.grantsOwn r with
  | false => rwa [OwnRequest.grant_of_not grants]
  | true =>
    cases r with
    | refresh =>
      simp only [OwnRequest.grant, State.grantRefresh, if_pos grants]
      split
      · exact starvation
      · simpa using begun _ _
    | boost =>
      simp only [OwnRequest.grant, State.grantBoost, if_pos grants]
      split
      · exact starvation
      · exact begun _ _
    | report =>
      simp only [OwnRequest.grant, State.grantReport, if_pos grants]
      split
      · exact starvation
      · exact begun _ _
    | ring =>
      simp only [OwnRequest.grant, State.grantRing, if_pos grants]
      split
      · exact starvation
      · exact begun _ _
    | sweep =>
      simp only [OwnRequest.grant, State.grantSweep, if_pos grants]
      split
      · exact starvation
      · exact begun _ _

theorem State.cutTraffic_starvation (s : State) : s.cutTraffic.mport.starvation = 0 := by
  unfold State.cutTraffic
  (repeat' split) <;> rfl

theorem State.completeWrite_starvation (s : State) : s.completeWrite.mport.starvation = s.mport.starvation := by
  unfold State.completeWrite
  (repeat' split) <;> rfl

theorem State.completeRingWord_starvation (s : State) : s.completeRingWord.mport.starvation = s.mport.starvation := by
  unfold State.completeRingWord State.ringWordWritten
  (repeat' split) <;> simp [State.freePort, State.store, State.publish]

theorem keptByCommands_queueInBounds : KeptByCommands QueueInBounds where
  mark _ _ h := h
  raise := raise_of_report fun _ _ h => h
  clearEvents _ _ h := h
  profileUnit _ _ _ h := h
  offered _ _ h := h
  enqueueWrite _ _ _ _ _ isOpen _ h := h.enqueue isOpen _ _
  enqueueRead _ _ _ _ isOpen h := h.enqueue isOpen _ _
  consumer _ _ _ h := h
  recordIntent _ _ _ _ _ _ _ h := h.of_ports (by simp) (by simp)
  start _ _ _ _ _ _ h := h.of_ports (by simp) (by simp)
  stop _ _ _ _ h := h.of_ports (by simp) (by simp)
  park _ _ _ _ h := h.of_ports (by simp) (by simp)
  release _ _ _ _ h := h.of_ports (by simp) (by simp)
  zero _ _ h := h.of_ports (by simp) (by simp)
  excite _ _ h := h.of_ports (by simp) (by simp)
  tcSet _ h := h.of_ports (by simp) (by simp)
  sourceReturn _ _ _ h := h.of_ports (by simp) (by simp)
  takeUp _ _ _ h := h.takeUpProfile
  startUpApply _ _ _ _ _ _ _ _ h := h.takeUpProfile
  pending _ _ h := h
  reset s _ _ _ _ := ⟨by simp [State.resetBlocks, CPort.reset], by simp [State.resetBlocks, CPort.reset],
    s.cutTraffic_starvation.trans_le (by decide)⟩
  strapsRead _ _ _ h := h
  tick _ h := h
  assembly _ _ _ h := h.of_ports (by simp) (by simp)
  acceptFrame _ _ _ _ h := h.of_ports (by simp) (by simp)
  staleExpiry _ _ h := h.of_ports (by simp) (by simp)
  silenceExpiry _ _ h := h.of_ports (by simp) (by simp)
  dwellExpiry _ _ h := h.of_ports (by simp) (by simp)
  deadlineExpiry _ _ h := h.of_ports (by simp) (by simp)
  toggleLamp s h := by
    unfold State.toggleLamp
    split <;> exact h
  settleExpiry _ h := h.of_ports (by simp) (by simp)
  exitHoldExpiry _ h := h.of_ports (by simp) (by simp)
  frameLostExpiry _ h := h.of_ports (by simp) (by simp)
  framePulse _ h := h.of_ports (by simp) (by simp)
  headGranted _ _ _ grants head h := h.grantEntry grants head
  refreshGrant _ h := h.ownGrant .refresh
  boostGrant _ h := h.ownGrant .boost
  reportGrant _ h := h.ownGrant .report
  ringGrant _ h := h.ownGrant .ring
  sweepGrant _ h := h.ownGrant .sweep
  writeReady s h := h.congr (by simp) s.completeWrite_starvation
  ringReady s h := h.congr (by simp) s.completeRingWord_starvation
  sweepReady _ _ _ _ h := h
  readReady _ _ _ _ _ _ h := h

/-! ### What is stretched (R99, R100) -/

/-- After the stretched transactions have been looked at, what is left finds the port closed. -/
theorem stretchedInOrder_acceptOffers (s : State) (ts : List BusTxn) : StretchedInOrder (s.acceptOffers ts) := by
  induction ts generalizing s with
  | nil => exact fun left => (left rfl).elim
  | cons t rest ih =>
    unfold State.acceptOffers
    split
    · exact ih _
    next closed =>
      rw [Bool.not_eq_true] at closed
      exact fun _ => closed

/-- What decides whether the C-port accepts, and what is stretched. -/
def State.gate (s : State) : Bool × Nat × Bool × Bool × List BusTxn :=
  (s.resetHeld, s.cport.queue.length, s.cport.queue.any QEntry.isRead, s.mport.busy.any MTxn.isControllerRead, s.cport.offered)

theorem State.cportOpen_eq_of_gate {s t : State} (gate : t.gate = s.gate) : t.cportOpen = s.cportOpen ∧ t.cport.offered = s.cport.offered := by
  simp only [State.gate, Prod.mk.injEq] at gate
  obtain ⟨held, length, reads, busy, offered⟩ := gate
  simp [State.cportOpen, State.readInFlight, held, length, reads, busy, offered]

theorem StretchedInOrder.of_gate {s t : State} (h : StretchedInOrder s) (gate : t.gate = s.gate) : StretchedInOrder t := by
  obtain ⟨isOpen, offered⟩ := State.cportOpen_eq_of_gate gate
  rw [StretchedInOrder, isOpen, offered]
  exact h

theorem State.gate_congr {s t : State} (held : t.resetHeld = s.resetHeld) (cport : t.cport = s.cport)
    (busy : t.mport.busy.any MTxn.isControllerRead = s.mport.busy.any MTxn.isControllerRead) : t.gate = s.gate := by
  simp [State.gate, held, cport, busy]

theorem State.gate_of_ports {s t : State} (held : t.resetHeld = s.resetHeld) (cport : t.cport = s.cport) (mport : t.mport = s.mport) :
    t.gate = s.gate := State.gate_congr held cport (by rw [mport])

theorem MTxn.orphan_isControllerRead (w : MTxn) : w.orphan.isControllerRead = w.isControllerRead := by
  unfold MTxn.orphan
  split
  next kind => simp [MTxn.isControllerRead, kind]
  all_goals rfl

theorem State.takeUpProfile_gate (s : State) : s.takeUpProfile.gate = s.gate := by
  have table : (s.activateProfile.takeUpTable s.profile.active).gate = s.gate := by
    unfold State.takeUpTable
    split
    · have reads : ∀ t : State, QEntry.isRead ∘ t.rebindEntry = QEntry.isRead := fun t => funext t.rebindEntry_isRead
      simp [State.gate, State.rebindQueue, List.any_map, reads]
    · exact State.gate_of_ports (by simp) (by simp) (by simp)
  have rated : ((((s.activateProfile).takeUpTable s.profile.active).clearRefreshCounts.takeUpBoost s.profile.active).takeUpRate).gate =
      s.gate := (State.gate_of_ports (by simp) (by simp) (by simp)).trans table
  have retabled : s.retabled.gate = s.gate := by
    unfold State.retabled State.takeUpRing
    split
    · exact rated
    · refine (State.gate_congr (by simp) (by simp) ?_).trans rated
      simp [State.restartRing, Option.any_map, MTxn.orphan_isControllerRead]
  rw [State.takeUpProfile_eq]
  exact (State.gate_of_ports (by simp) (by simp) (by simp)).trans retabled

theorem State.applyRequest_gate (s : State) : s.applyRequest.gate = s.gate := by
  unfold State.applyRequest
  simp only []
  split
  · exact (State.takeUpProfile_gate _).trans (State.gate_of_ports (by simp) (by simp) (by simp))
  · exact State.gate_of_ports (by simp) (by simp) (by simp)

/-- An own grant begins no read of the arm controller. -/
theorem OwnRequest.grant_gate (r : OwnRequest) (s : State) : (r.grant s).gate = s.gate := by
  cases grants : s.grantsOwn r with
  | false => rw [OwnRequest.grant_of_not grants]
  | true =>
    obtain ⟨-, idle⟩ := s.portFree_iff.mp (State.portFree_of_grantsOwn grants)
    obtain ⟨-, held, -, -, cport, -, -⟩ := r.grant_frame s
    refine State.gate_congr held cport ?_
    cases r with
    | refresh =>
      simp only [OwnRequest.grant, State.grantRefresh, if_pos grants]
      split
      · rfl
      · simp [State.beginOwn, idle, MTxn.isControllerRead]
    | boost =>
      simp only [OwnRequest.grant, State.grantBoost, if_pos grants]
      split
      · rfl
      · simp [State.beginOwn, idle, MTxn.isControllerRead]
    | report =>
      simp only [OwnRequest.grant, State.grantReport, if_pos grants]
      split
      · rfl
      · simp [State.beginOwn, idle, MTxn.isControllerRead]
    | ring =>
      simp only [OwnRequest.grant, State.grantRing, if_pos grants]
      split
      · rfl
      · simp [State.beginOwn, idle, MTxn.isControllerRead]
    | sweep =>
      simp only [OwnRequest.grant, State.grantSweep, if_pos grants]
      split
      · rfl
      · simp [State.beginOwn, idle, MTxn.isControllerRead]

theorem State.completeWrite_gate (s : State) : s.completeWrite.gate = s.gate := by
  refine State.gate_congr (by simp) (by simp) ?_
  unfold State.completeWrite
  split
  next idle => rfl
  next w busy => cases kind : w.kind <;> simp [busy, MTxn.isControllerRead, kind, State.freePort, State.store]

theorem State.completeRingWord_gate (s : State) : s.completeRingWord.gate = s.gate := by
  refine State.gate_congr (by simp) (by simp) ?_
  unfold State.completeRingWord
  split
  next idle => rfl
  next w busy =>
    cases kind : w.kind with
    | ringWord current => cases current <;> simp [busy, MTxn.isControllerRead, kind, State.freePort, State.store]
    | controllerWrite | controllerRead | refresh | boost | report | sweepRead => rfl

theorem State.completeSweepRead_gate (s : State) : s.completeSweepRead.gate = s.gate := by
  unfold State.completeSweepRead
  split
  next w pos busy _ =>
    cases kind : w.kind with
    | sweepRead =>
      have placed : (s.freePort.placeSwept pos (s.ram.readWord w.addr)).gate = s.gate := by
        refine State.gate_congr (by simp) (by simp) ?_
        simp [busy, MTxn.isControllerRead, kind, State.freePort]
      simp only []
      split
      · unfold State.endSweep
        simp only []
        split
        · exact (State.applyRequest_gate _).trans ((State.gate_of_ports (by simp) (by simp) (by simp)).trans placed)
        · exact (State.gate_of_ports (by simp) (by simp) (by simp)).trans placed
      · exact placed
    | controllerWrite | controllerRead | refresh | boost | report | ringWord => rfl
  next => rfl

theorem StretchedInOrder.exec {c : Instr} {s t : State} (h : StretchedInOrder s) (he : exec c s = .next t) : StretchedInOrder t := by
  have gated : ∀ {u : State}, u.gate = s.gate → StretchedInOrder u := h.of_gate
  have ports : ∀ {u : State}, u.resetHeld = s.resetHeld → u.cport = s.cport → u.mport = s.mport → StretchedInOrder u :=
    fun held cport mport => gated (State.gate_of_ports held cport mport)
  have read : StretchedInOrder s.completeRead := by
    unfold State.completeRead
    split
    next => exact h
    next w _ =>
      cases w.kind with
      | controllerRead => exact stretchedInOrder_acceptOffers _ _
      | controllerWrite | refresh | boost | report | ringWord | sweepRead => exact h
  cases c <;> cases he
  case powerOnReset | lineReset => exact fun left => (left rfl).elim
  case resetEnd straps =>
    change StretchedInOrder (s.endReset straps)
    unfold State.endReset
    split
    · exact stretchedInOrder_acceptOffers _ _
    · exact h
  case timeBasePulse => exact keeps_unless_reset h fun _ => ports rfl rfl rfl
  case goodByte | framingError | byteTimeout | inertialFrame =>
    refine keeps_unless_reset h fun _ => ports ?_ ?_ ?_ <;> simp
  case statBlinkToggle =>
    change StretchedInOrder s.toggleLamp
    unfold State.toggleLamp
    split <;> exact h
  case start | stop | park | release | zero | excite | tcSet | sourceReturn | unknownCommand | apply | intentWrite | ringConsumer
      | controllerWrite | controllerRead => exact stretchedInOrder_acceptOffers _ _
  case queueHeadGrant =>
    change StretchedInOrder s.grantHead
    unfold State.grantHead
    (repeat' split)
    · exact h
    · exact stretchedInOrder_acceptOffers _ _
    · exact h
  case refreshGrant => exact gated (OwnRequest.grant_gate .refresh s)
  case boostGrant => exact gated (OwnRequest.grant_gate .boost s)
  case reportWordGrant => exact gated (OwnRequest.grant_gate .report s)
  case ringWordGrant => exact gated (OwnRequest.grant_gate .ring s)
  case sweepReadGrant => exact gated (OwnRequest.grant_gate .sweep s)
  case writeComplete => exact gated s.completeWrite_gate
  case ringWordDone => exact gated s.completeRingWord_gate
  case sweepReadDone => exact gated s.completeSweepRead_gate
  case readReturn => exact read
  case eventPending =>
    change StretchedInOrder s.completeEventRead
    unfold State.completeEventRead
    (repeat' split)
    · exact h
    · exact read
    · exact h
  all_goals refine ports ?_ ?_ ?_ <;> simp

/-- Settles O48: an open C-port has room and no read waiting, a head goes only while the count is below 4, and whatever opens the port has what
is stretched looked at again. -/
theorem queueStaysInBounds : Obligations.QueueStaysInBounds :=
  ⟨fun _ _ => keptByCommands_queueInBounds.step, fun _ _ => step_keeps (fun _ _ h => h) fun _ _ _ => StretchedInOrder.exec⟩

end Sys2Proof.Machine
end

section
/-! The ring's indices and the two counts of a staged record (R103, R150 to R154). -/

namespace Sys2Proof.Machine

/-! ### Indices -/

/-- Two indices below N are as far apart as a walk forward from one to the other is long. -/
theorem ringDistance_eq {n p q : Nat} (hp : p < n) (hq : q < n) : ringDistance n p q = if q ≤ p then p - q else p + n - q := by
  unfold ringDistance
  split
  next le =>
    have split_off : p + n - q = (p - q) + n := by omega
    rw [split_off, Nat.add_mod_right, Nat.mod_eq_of_lt (by omega)]
  next gt => exact Nat.mod_eq_of_lt (by omega)

theorem nextIndex_eq {n p : Nat} (hp : p < n) : (p + 1) % n = if p + 1 = n then 0 else p + 1 := by
  split
  next wraps => rw [wraps, Nat.mod_self]
  next => exact Nat.mod_eq_of_lt (by omega)

/-- An index that moves forward to the producer at the latest does not come to stand after it. -/
theorem ne_next_of_forward {n p q q' : Nat} (hp : p < n) (hq : q < n) (hq' : q' < n) (room : (p + 1) % n ≠ q)
    (forward : ringDistance n q' q ≤ ringDistance n p q) : (p + 1) % n ≠ q' := by
  rw [ringDistance_eq hq' hq, ringDistance_eq hp hq] at forward
  rw [nextIndex_eq hp] at room ⊢
  split_ifs at * <;> omega

theorem RingInOrder.congr {s t : State} (h : RingInOrder s) (profile : t.profile.active = s.profile.active)
    (producer : t.ring.producer = s.ring.producer) (consumer : t.ring.consumer = s.ring.consumer)
    (staged : t.ring.staged ≠ none → s.ring.staged ≠ none) (slot : t.ring.slot = s.ring.slot)
    (position : t.ring.position = s.ring.position) : RingInOrder t := by
  simp only [RingInOrder, State.ringEnabled_congr profile, State.nextProducer, State.ringN, State.page_congr profile, producer, consumer,
    slot, position]
  intro enabled
  obtain ⟨hp, hc, record⟩ := h enabled
  exact ⟨hp, hc, fun some => record (staged some)⟩

theorem RingInOrder.of_ring {s t : State} (h : RingInOrder s) (profile : t.profile.active = s.profile.active) (ring : t.ring = s.ring) :
    RingInOrder t := h.congr profile (by rw [ring]) (by rw [ring]) (by rw [ring]; exact id) (by rw [ring]) (by rw [ring])

theorem RingInOrder.moveConsumer {s : State} (h : RingInOrder s) {q : Nat} (valid : s.consumerValid q = true) :
    RingInOrder { s with ring := { s.ring with consumer := q } } := by
  intro enabled
  obtain ⟨hp, hc, record⟩ := h enabled
  simp only [State.consumerValid, Bool.and_eq_true, decide_eq_true_eq] at valid
  obtain ⟨⟨-, below⟩, forward⟩ := valid
  refine ⟨hp, below, fun staged => ?_⟩
  obtain ⟨slot, position, room⟩ := record staged
  exact ⟨slot, position, ne_next_of_forward hp hc below room forward⟩

theorem RingInOrder.captureRecord {s : State} (h : RingInOrder s) : RingInOrder s.captureRecord := by
  unfold State.captureRecord
  split_ifs with disabled busy
  · exact h
  · exact h.of_ring (by simp) (by simp)
  · intro _
    obtain ⟨hp, hc, -⟩ := h (by simpa using disabled)
    simp only [Bool.or_eq_true, not_or, beq_iff_eq] at busy
    exact ⟨hp, hc, fun _ => ⟨rfl, by simp [State.clearSaturation], busy.2⟩⟩

theorem ringInOrder_publish {s : State} (consumer : s.ringEnabled = true → s.ring.consumer < s.ringN) : RingInOrder s.publish := by
  have enabled_iff : s.publish.ringEnabled = s.ringEnabled := State.ringEnabled_congr (by simp)
  have length : s.publish.ringN = s.ringN := by simp [State.ringN]
  intro enabled
  rw [enabled_iff] at enabled
  rw [length, State.publish_ring]
  exact ⟨State.nextProducer_lt enabled, consumer enabled, fun staged => (staged rfl).elim⟩

theorem RingInOrder.ringWordWritten {s : State} (h : RingInOrder s) : RingInOrder s.ringWordWritten := by
  unfold State.ringWordWritten
  simp only []
  split_ifs with none last
  · exact h
  · exact ringInOrder_publish fun enabled => (h enabled).2.1
  · intro enabled
    obtain ⟨hp, hc, record⟩ := h enabled
    refine ⟨hp, hc, fun staged => ?_⟩
    obtain ⟨slot, position, room⟩ := record staged
    exact ⟨slot, by simp only []; omega, room⟩

theorem RingInOrder.completeRingWord {s : State} (h : RingInOrder s) : RingInOrder s.completeRingWord := by
  unfold State.completeRingWord
  split
  next => exact h
  next w _ =>
    have freed : RingInOrder ((s.store w).freePort) := h
    cases w.kind with
    | ringWord current =>
      simp only []
      split
      · exact freed.ringWordWritten
      · exact freed
    | controllerWrite | controllerRead | refresh | boost | report | sweepRead => exact h

theorem ringInOrder_takeUpRing {s : State} {old : Option Page}
    (before : ∀ p, old = some p → p.ringSettings = s.page.ringSettings → RingInOrder s) : RingInOrder (s.takeUpRing old) := by
  unfold State.takeUpRing
  split
  next same =>
    rw [Option.map_eq_some_iff] at same
    obtain ⟨p, some, settings⟩ := same
    exact before p some settings
  next =>
    intro enabled
    obtain ⟨-, -, two, -⟩ := State.ringEnabled_iff _ |>.mp enabled
    simp only [State.restartRing, State.mark_frame] at two ⊢
    exact ⟨lt_of_lt_of_le (by decide) two, lt_of_lt_of_le (by decide) two, fun staged => (staged rfl).elim⟩

/-- With base, N and ring enable as they were the ring is the same. -/
theorem RingInOrder.takeUpProfile {s : State} (h : RingInOrder s) : RingInOrder s.takeUpProfile := by
  have retabled : RingInOrder s.retabled := by
    refine ringInOrder_takeUpRing fun p old settings => ?_
    have page : s.page = p := by simp [State.page, old]
    have active : s.profileActive = true := by simp [State.profileActive, old]
    simp only [State.takeUpRate_frame, State.takeUpBoost_frame, State.clearRefreshCounts_frame, State.takeUpTable_frame,
      State.activateProfile_page, Page.ringSettings, Prod.mk.injEq] at settings
    obtain ⟨-, length, enable⟩ := settings
    simp only [RingInOrder, State.ringEnabled, State.nextProducer, State.ringN, active, page] at h ⊢
    simpa [State.activateProfile_page, State.profileActive, State.activateProfile_profile, ← length, ← enable] using h
  rw [State.takeUpProfile_eq]
  exact retabled.of_ring (by simp) (by simp)

theorem RingInOrder.grantRing {s : State} (h : RingInOrder s) : RingInOrder s.grantRing := by
  unfold State.grantRing
  (repeat' split)
  · exact h
  · exact h.congr (by simp) (by simp) (by simp) (by simp) (by simp) (by simp)
  · exact h

theorem keptByCommands_ringInOrder : KeptByCommands RingInOrder where
  mark _ _ h := h
  raise := raise_of_report fun _ _ h => h
  clearEvents _ _ h := h
  profileUnit _ _ active h := h.of_ring active rfl
  offered _ _ h := h
  enqueueWrite _ _ _ _ _ _ _ h := h
  enqueueRead _ _ _ _ _ h := h
  consumer _ _ valid h := h.moveConsumer valid
  recordIntent _ _ _ _ _ _ _ h := h.of_ring (by simp) (by simp)
  start _ _ _ _ _ _ h := h.of_ring (by simp) (by simp)
  stop _ _ _ _ h := h.of_ring (by simp) (by simp)
  park _ _ _ _ h := h.of_ring (by simp) (by simp)
  release _ _ _ _ h := h.of_ring (by simp) (by simp)
  zero _ _ h := h.of_ring (by simp) (by simp)
  excite _ _ h := h.of_ring (by simp) (by simp)
  tcSet _ h := h.of_ring (by simp) (by simp)
  sourceReturn _ _ _ h := h.of_ring (by simp) (by simp)
  takeUp _ _ _ h := h.takeUpProfile
  startUpApply _ _ _ _ _ _ _ _ h := h.takeUpProfile
  pending _ _ h := h
  reset s bias timecode _ _ := fun enabled => by
    have active := ((s.resetBlocks bias timecode).ringEnabled_iff.mp enabled).1
    cases active
  strapsRead _ _ _ h := h
  tick _ h := h
  assembly _ _ _ h := h.of_ring (by simp) (by simp)
  acceptFrame _ _ _ _ h := h.of_ring (by simp) (by simp)
  staleExpiry _ _ h := h.of_ring (by simp) (by simp)
  silenceExpiry _ _ h := h.of_ring (by simp) (by simp)
  dwellExpiry _ _ h := h.of_ring (by simp) (by simp)
  deadlineExpiry _ _ h := h.of_ring (by simp) (by simp)
  toggleLamp s h := by
    unfold State.toggleLamp
    split <;> exact h
  settleExpiry _ h := h.of_ring (by simp) (by simp)
  exitHoldExpiry _ h := h.of_ring (by simp) (by simp)
  frameLostExpiry _ h := h.of_ring (by simp) (by simp)
  framePulse _ h := RingInOrder.captureRecord (h.of_ring (by simp) (by simp))
  headGranted _ _ _ _ _ h := h.of_ring (by simp) (by simp)
  refreshGrant _ h := h.of_ring (by simp) (by simp)
  boostGrant _ h := h.of_ring (by simp) (by simp)
  reportGrant _ h := h.of_ring (by simp) (by simp)
  ringGrant _ h := h.grantRing
  sweepGrant _ h := h.of_ring (by simp) (by simp)
  writeReady _ h := h.of_ring (by simp) (by simp)
  ringReady _ h := h.completeRingWord
  sweepReady _ _ _ _ h := h
  readReady _ _ _ _ _ _ h := h

/-! ### The two counts of a staged record (R152; assumption log 11) -/

theorem ringWordBusy_of_idle {s : State} (idle : s.mport.busy = none) : ringWordBusy s = false := by simp [ringWordBusy, idle]

theorem StagingInOrder.congr {s t : State} (h : StagingInOrder s) (busy : ringWordBusy t = ringWordBusy s) (ring : t.ring = s.ring) :
    StagingInOrder t := by rw [StagingInOrder, busy, ring]; exact h

theorem StagingInOrder.of_frame {s t : State} (h : StagingInOrder s) (mport : t.mport = s.mport) (ring : t.ring = s.ring) :
    StagingInOrder t := h.congr (by rw [ringWordBusy, mport, ringWordBusy]) ring

/-- No record is staged, and no word of one is in progress. -/
theorem stagingInOrder_of_none {s : State} (none : s.ring.staged = none) (busy : ringWordBusy s = false) : StagingInOrder s :=
  ⟨fun _ => busy, fun staged => (staged none).elim⟩

theorem StagingInOrder.consumer {s : State} (h : StagingInOrder s) (q : Nat) :
    StagingInOrder { s with ring := { s.ring with consumer := q } } := h

theorem StagingInOrder.captureRecord {s : State} (h : StagingInOrder s) : StagingInOrder s.captureRecord := by
  unfold State.captureRecord
  split_ifs with disabled busy
  · exact h
  · exact h.of_frame (by simp) (by simp)
  · simp only [Bool.or_eq_true, not_or, Option.isSome_iff_ne_none, ne_eq, not_not] at busy
    have idle := h.1 busy.1
    refine ⟨fun none => by simp [State.clearSaturation] at none, fun _ => ?_⟩
    have same : ringWordBusy (State.clearSaturation { s with
        ring := { s.ring with staged := some s.recordWords, slot := s.ring.producer, granted := 0, position := 0 } }) = ringWordBusy s := rfl
    rw [same, idle]
    exact ⟨by simp [State.clearSaturation], by simp [State.clearSaturation]⟩

/-- The ready of the record's word in progress. -/
theorem StagingInOrder.completeRingWord {s : State} (h : StagingInOrder s) : StagingInOrder s.completeRingWord := by
  unfold State.completeRingWord
  split
  next => exact h
  next w busy =>
    have freed : ringWordBusy ((s.store w).freePort) = false := ringWordBusy_of_idle rfl
    cases kind : w.kind with
    | ringWord current =>
      cases current with
      | true =>
        have inProgress : ringWordBusy s = true := by simp [ringWordBusy, busy, kind]
        simp only [if_true, State.ringWordWritten]
        split_ifs with none last
        · exact stagingInOrder_of_none (by simpa using none) freed
        · exact stagingInOrder_of_none (by rw [State.publish_ring]) (ringWordBusy_of_idle (by simp [State.publish, State.freePort]))
        · have staged : s.ring.staged ≠ Option.none := by simpa using none
          obtain ⟨position, granted⟩ := h.2 staged
          refine ⟨fun none => (staged none).elim, fun _ => ?_⟩
          have last' : s.ring.position + 1 ≠ 12 := last
          rw [inProgress, if_pos rfl] at granted
          have idle : ringWordBusy { (s.store w).freePort with
              ring := { (s.store w).freePort.ring with position := (s.store w).freePort.ring.position + 1 } } = false :=
            ringWordBusy_of_idle rfl
          rw [idle]
          simp only [State.store, State.freePort]
          exact ⟨by omega, by simpa using granted⟩
      | false =>
        have notInProgress : ringWordBusy s = false := by simp [ringWordBusy, busy, kind]
        exact h.congr (by rw [notInProgress]; exact freed) rfl
    | controllerWrite | controllerRead | refresh | boost | report | sweepRead => exact h

theorem MTxn.orphan_kind (w : MTxn) : w.orphan.kind ≠ .ringWord true := by
  unfold MTxn.orphan
  split <;> simp_all

theorem StagingInOrder.takeUpProfile {s : State} (h : StagingInOrder s) : StagingInOrder s.takeUpProfile := by
  have rated : StagingInOrder
      ((((s.activateProfile).takeUpTable s.profile.active).clearRefreshCounts.takeUpBoost s.profile.active).takeUpRate) :=
    h.of_frame (by simp) (by simp)
  have retabled : StagingInOrder s.retabled := by
    unfold State.retabled State.takeUpRing
    split
    · exact rated
    · exact stagingInOrder_of_none (by simp [State.restartRing])
        (by simp [ringWordBusy, State.restartRing, Option.any_map, MTxn.orphan_kind])
  rw [State.takeUpProfile_eq]
  exact retabled.of_frame (by simp) (by simp)

/-- Another grant than the ring's begins at a free port, and none of a record's words. -/
theorem StagingInOrder.granted {s t : State} (h : StagingInOrder s) (free : s.portFree = true) (ring : t.ring = s.ring) (w : MTxn)
    (begun : t.mport.busy = some w) (kind : w.kind ≠ .ringWord true) : StagingInOrder t := by
  obtain ⟨-, idle⟩ := s.portFree_iff.mp free
  exact h.congr (by rw [ringWordBusy_of_idle idle]; simp [ringWordBusy, begun, kind]) ring

theorem State.carried_kind (s : State) (e : QEntry) : (s.carried e).kind ≠ .ringWord true := by
  unfold State.carried
  (repeat' split) <;> simp

theorem StagingInOrder.grantEntry {s : State} (h : StagingInOrder s) {e : QEntry} {rest : List QEntry} (grants : s.grantsHead = true) :
    StagingInOrder (s.grantEntry e rest) := by
  refine h.granted (State.portFree_of_grantsHead grants) (by simp) (s.carried e) ?_ (s.carried_kind e)
  unfold State.grantEntry
  simp only []
  split <;> simp

theorem StagingInOrder.ownGrant {s : State} (h : StagingInOrder s) (r : OwnRequest) : StagingInOrder (r.grant s) := by
  cases grants : s.grantsOwn r with
  | false => rwa [OwnRequest.grant_of_not grants]
  | true =>
    have free := State.portFree_of_grantsOwn grants
    cases r with
    | refresh =>
      simp only [OwnRequest.grant, State.grantRefresh, if_pos grants]
      split
      · exact h
      next a _ =>
        exact h.granted free (by simp [State.beginOwn])
          { kind := .refresh a, addr := (s.axis a).outAddr.getD 0, data := s.outputWord a, lanes := .both } (by simp [State.beginOwn]) (by simp)
    | boost =>
      simp only [OwnRequest.grant, State.grantBoost, if_pos grants]
      split
      · exact h
      · exact h.granted free rfl _ rfl (by simp)
    | report =>
      simp only [OwnRequest.grant, State.grantReport, if_pos grants]
      split
      · exact h
      · exact h.granted free rfl _ rfl (by simp)
    | ring =>
      simp only [OwnRequest.grant, State.grantRing, if_pos grants]
      split
      · exact h
      next addr data next =>
        obtain ⟨-, idle⟩ := s.portFree_iff.mp free
        have staged : s.ring.staged ≠ none := by
          intro none
          simp [State.nextRingWord, none] at next
        obtain ⟨position, granted⟩ := h.2 staged
        rw [ringWordBusy_of_idle idle] at granted
        refine ⟨fun none => (staged none).elim, fun _ => ⟨position, ?_⟩⟩
        simpa [State.beginOwn, ringWordBusy] using granted
    | sweep =>
      simp only [OwnRequest.grant, State.grantSweep, if_pos grants]
      split
      · exact h
      · exact h.granted free rfl _ rfl (by simp)

theorem StagingInOrder.freed {s t : State} (h : StagingInOrder s) {w : MTxn} (busy : s.mport.busy = some w) (kind : w.kind ≠ .ringWord true)
    (free : t.mport.busy = none) (ring : t.ring = s.ring) : StagingInOrder t :=
  h.congr (by rw [ringWordBusy_of_idle free]; simp [ringWordBusy, busy, kind]) ring

theorem StagingInOrder.completeWrite {s : State} (h : StagingInOrder s) : StagingInOrder s.completeWrite := by
  unfold State.completeWrite
  split
  next => exact h
  next w busy =>
    cases kind : w.kind with
    | controllerWrite | refresh | boost | report => exact h.freed busy (by simp [kind]) rfl rfl
    | controllerRead | ringWord | sweepRead => exact h

theorem keptByCommands_stagingInOrder : KeptByCommands StagingInOrder where
  mark _ _ h := h
  raise := raise_of_report fun _ _ h => h
  clearEvents _ _ h := h
  profileUnit _ _ _ h := h
  offered _ _ h := h
  enqueueWrite _ _ _ _ _ _ _ h := h
  enqueueRead _ _ _ _ _ h := h
  consumer _ q _ h := h.consumer q
  recordIntent _ _ _ _ _ _ _ h := h.of_frame (by simp) (by simp)
  start _ _ _ _ _ _ h := h.of_frame (by simp) (by simp)
  stop _ _ _ _ h := h.of_frame (by simp) (by simp)
  park _ _ _ _ h := h.of_frame (by simp) (by simp)
  release _ _ _ _ h := h.of_frame (by simp) (by simp)
  zero _ _ h := h.of_frame (by simp) (by simp)
  excite _ _ h := h.of_frame (by simp) (by simp)
  tcSet _ h := h.of_frame (by simp) (by simp)
  sourceReturn _ _ _ h := h.of_frame (by simp) (by simp)
  takeUp _ _ _ h := h.takeUpProfile
  startUpApply _ _ _ _ _ _ _ _ h := h.takeUpProfile
  pending _ _ h := h
  reset s bias timecode _ _ := stagingInOrder_of_none rfl (ringWordBusy_of_idle (s.resetBlocks_busy bias timecode))
  strapsRead _ _ _ h := h
  tick _ h := h
  assembly _ _ _ h := h.of_frame (by simp) (by simp)
  acceptFrame _ _ _ _ h := h.of_frame (by simp) (by simp)
  staleExpiry _ _ h := h.of_frame (by simp) (by simp)
  silenceExpiry _ _ h := h.of_frame (by simp) (by simp)
  dwellExpiry _ _ h := h.of_frame (by simp) (by simp)
  deadlineExpiry _ _ h := h.of_frame (by simp) (by simp)
  toggleLamp s h := by
    unfold State.toggleLamp
    split <;> exact h
  settleExpiry _ h := h.of_frame (by simp) (by simp)
  exitHoldExpiry _ h := h.of_frame (by simp) (by simp)
  frameLostExpiry _ h := h.of_frame (by simp) (by simp)
  framePulse _ h := StagingInOrder.captureRecord (h.of_frame (by simp) (by simp))
  headGranted _ _ _ grants _ h := h.grantEntry grants
  refreshGrant _ h := h.ownGrant .refresh
  boostGrant _ h := h.ownGrant .boost
  reportGrant _ h := h.ownGrant .report
  ringGrant _ h := h.ownGrant .ring
  sweepGrant _ h := h.ownGrant .sweep
  writeReady _ h := h.completeWrite
  ringReady _ h := h.completeRingWord
  sweepReady _ _ busy kind h := h.freed busy (by simp [kind]) rfl rfl
  readReady _ _ _ _ busy kind h := h.freed busy (by simp [kind]) rfl rfl

/-- A publication leaves the producer short of the consumer: the capture of the record asked room for it. -/
theorem producer_ne_consumer_of_published {s : State} (h : RingInOrder s) (enabled : s.ringEnabled = true)
    (moved : s.completeRingWord.ring.producer ≠ s.ring.producer) :
    s.completeRingWord.ring.producer ≠ s.completeRingWord.ring.consumer ∧ s.completeRingWord.ring.staged = none := by
  have written : ∀ t : State, t.ring = s.ring → t.ringN = s.ringN → t.ringWordWritten.ring.producer ≠ s.ring.producer →
      t.ringWordWritten.ring.producer ≠ t.ringWordWritten.ring.consumer ∧ t.ringWordWritten.ring.staged = none := fun t ring length => by
    have next : t.nextProducer = s.nextProducer := by rw [State.nextProducer, State.nextProducer, ring, length]
    unfold State.ringWordWritten
    simp only []
    split_ifs with none last
    · exact fun moved => (moved (by rw [ring])).elim
    · intro _
      have staged : s.ring.staged ≠ Option.none := by rw [← ring]; simpa using none
      obtain ⟨-, -, record⟩ := h enabled
      obtain ⟨-, -, room⟩ := record staged
      rw [State.publish_ring]
      refine ⟨?_, rfl⟩
      change t.nextProducer ≠ t.ring.consumer
      rwa [next, ring]
    · exact fun moved => (moved (by rw [ring])).elim
  unfold State.completeRingWord at moved ⊢
  split at moved
  next => exact (moved rfl).elim
  next w busy =>
    cases kind : w.kind with
    | ringWord current =>
      simp only [kind] at moved ⊢
      cases current with
      | true => exact written _ rfl rfl moved
      | false => exact (moved rfl).elim
    | controllerWrite | controllerRead | refresh | boost | report | sweepRead => simp [kind] at moved

/-- Settles O56: a capture asks room for the next index, a consumer moves forward to the producer at the latest, and a staged record's words are
granted and written one after the other. -/
theorem ringIndicesStayInOrder : Obligations.RingIndicesStayInOrder := by
  refine ⟨fun _ _ => keptByCommands_ringInOrder.step, fun _ _ => keptByCommands_stagingInOrder.step, fun s t h enabled he moved => ?_⟩
  cases he
  exact producer_ne_consumer_of_published h enabled moved

end Sys2Proof.Machine
end

section
/-! Steps, resets and the state a run begins in (assumption log 4, 5, 19). -/

namespace Sys2Proof.Machine

/-- Settles O1: the step is defined by the front of the queue. -/
theorem stepRunsFrontCommand : Obligations.StepRunsFrontCommand := fun c rest s =>
  ⟨fun front => by rw [step, front], fun empty => by rw [step, empty]⟩

/-! ### The queue of waiting commands -/

@[simp] theorem State.toggleLamp_pending (s : State) : s.toggleLamp.pending = s.pending := by
  unfold State.toggleLamp
  split <;> rfl

@[simp] theorem State.cutTraffic_pending (s : State) : s.cutTraffic.pending = s.pending := by
  unfold State.cutTraffic
  (repeat' split) <;> rfl

/-- Settles O2: every row answers `.next`, and no operation of the part writes the queue of waiting commands. -/
theorem everyCommandAnswersANextState : Obligations.EveryCommandAnswersANextState := by
  intro c s
  cases c
  case powerOnReset | lineReset => exact ⟨_, rfl, s.cutTraffic_pending⟩
  case statBlinkToggle => exact ⟨_, rfl, s.toggleLamp_pending⟩
  case resetEnd straps =>
    refine ⟨_, rfl, ?_⟩
    unfold State.endReset
    split <;> simp
  case timeBasePulse => exact ⟨_, rfl, keeps_unless_reset (P := fun t => t.pending = s.pending) rfl fun _ => rfl⟩
  case goodByte | framingError | byteTimeout | inertialFrame =>
    refine ⟨_, rfl, ?_⟩
    refine keeps_unless_reset (P := fun t => t.pending = s.pending) rfl fun _ => ?_
    simp [State.goodByte, State.framingError, State.byteTimeout]
  case start | stop | park | release | zero | excite | tcSet | sourceReturn | unknownCommand | apply | intentWrite | ringConsumer
      | controllerWrite | controllerRead => exact ⟨_, rfl, (State.offer_frame s _).1⟩
  all_goals refine ⟨_, rfl, ?_⟩; simp

/-! ### Resets -/

theorem reportsOffset_offset (w : ReportWord) : reportsOffset w.offset.val = true := by
  cases w with
  | biasX src | biasY src | biasZ src => cases src <;> rfl
  | axisStatus a | intent a | output a | correction a => revert a; decide
  | _ => rfl

theorem Causes.has_empty (c : Cause) : Causes.empty.has c = false := by cases c <;> rfl

theorem atReset_resetBlocks (s : State) (bias : PerSource Channels) {timecode : Timecode} (set : timecode.pendingSet = none)
    (timer : timecode.frameLostTimer = none) (lost : timecode.frameLost = false) : AtReset (s.resetBlocks bias timecode) := by
  have axes := s.resetBlocks_axis bias timecode
  have starvation : (s.resetBlocks bias timecode).mport.starvation = 0 := s.cutTraffic_starvation
  unfold AtReset
  refine ⟨rfl, fun src => by cases src <;> rfl, rfl, rfl, rfl, rfl, rfl, fun a => ?_, rfl, rfl, s.resetBlocks_busy bias timecode, starvation,
    rfl, rfl, rfl, rfl, rfl, rfl, rfl, rfl, set, timer, lost, rfl, rfl, rfl, rfl, rfl, fun w => ?_, fun i => ?_, rfl, rfl, ?_, ?_,
    s.isPending_resetBlocks bias timecode, fun w => ?_⟩
  · rw [axes]
    exact ⟨rfl, Causes.has_empty, rfl, rfl, rfl, rfl, rfl, rfl, rfl, rfl, rfl, rfl, rfl, rfl, rfl, rfl, rfl, rfl⟩
  · simp [State.resetBlocks, ProfileUnit.reset, Page.word, Page.zero]
  · simp [State.resetBlocks, ProfileUnit.reset]
  · change ofBytes 0 CmdResult.done.code = 0
    decide
  · change ofBytes ApplyResult.none.code 0 = 0
    decide
  · simp [State.isDirty, State.resetBlocks, Report.reset, reportsOffset_offset]

theorem cutWriteOnly_resetBlocks (s : State) (bias : PerSource Channels) (timecode : Timecode) :
    CutWriteOnly s (s.resetBlocks bias timecode) := by
  have ram : (s.resetBlocks bias timecode).ram = s.cutTraffic.ram := rfl
  unfold CutWriteOnly
  rw [ram, State.cutTraffic]
  cases busy : s.mport.busy with
  | none => rfl
  | some w =>
    simp only []
    cases write : w.isWrite with
    | false => exact .inl (by simp)
    | true =>
      simp only [if_true, true_and]
      split
      · exact .inr rfl
      · exact .inl rfl

/-- Settles O3: both resets write every block's reset state, and end the M-port's traffic. -/
theorem resetsPutEveryBlockAtItsResetState : Obligations.ResetsPutEveryBlockAtItsResetState := fun s =>
  ⟨⟨_, rfl, atReset_resetBlocks s _ rfl rfl rfl, cutWriteOnly_resetBlocks s _ _, rfl, rfl, rfl, rfl⟩,
    ⟨_, rfl, atReset_resetBlocks s _ rfl rfl rfl, cutWriteOnly_resetBlocks s _ _, rfl, rfl, rfl, rfl⟩⟩

/-! ### The state a run begins in -/

/-- That of the power-on reset. -/
theorem State.reset_eq_resetBlocks : State.reset = State.reset.resetBlocks ⟨.zero, .zero⟩ .powerOn := rfl

theorem sourceClassesInOrder_reset : SourceClassesInOrder State.reset :=
  (sourceClassesInOrder_of_empty rfl).mpr (by decide)

theorem dirtyInOrder_resetBlocks (s : State) (bias : PerSource Channels) (timecode : Timecode) :
    DirtyInOrder (s.resetBlocks bias timecode) := fun i dirty => by
  simpa [State.resetBlocks, Report.reset] using dirty

/-- Settles O59: the state is that which the power-on reset leaves, in which each condition holds. -/
theorem resetStateIsThatOfThePowerOnReset : Obligations.ResetStateIsThatOfThePowerOnReset := by
  have profile : ProfileTested State.reset := ⟨fun _ => ⟨rfl, rfl⟩, fun _ active => by cases active⟩
  have selection : SelectionInOrder State.reset := ⟨fun _ selected => (by cases selected), fun active => (by cases active)⟩
  refine ⟨atReset_resetBlocks State.reset _ rfl rfl rfl, rfl, rfl, rfl, rfl, rfl, rfl, ⟨by simp [State.reset, Timecode.powerOn],
    by simp [State.reset, Timecode.powerOn]⟩, ⟨by decide, by decide, by decide⟩, fun a => ?_, thetaBounded_resetBlocks State.reset _ _,
    outputsInLimits_resetBlocks State.reset _ _, selection, sourceClassesInOrder_reset, headlineInOrder_resetBlocks State.reset _ _,
    captureInOrder_of_idle rfl (fun _ shown => (by cases shown)), burstOnStabilising_of_idle rfl rfl, fun enabled => (by cases enabled),
    stagingInOrder_of_none rfl rfl, profile, fun left => (left rfl).elim, dirtyInOrder_resetBlocks State.reset ⟨.zero, .zero⟩ .powerOn,
    routesInOrder_resetBlocks State.reset ⟨.zero, .zero⟩ .powerOn⟩
  rw [State.reset_eq_resetBlocks, State.resetBlocks_axis]
  exact Axis.causedIffHeld_of_empty (by simp [Axis.reset]) rfl

end Sys2Proof.Machine
end

section
/-! Pulses and timers (R1), the straps (R81), and the arbiter's order (R103, R104). -/

namespace Sys2Proof.Machine

/-! ### The end of a reset -/

theorem addrAt_eq_ofNat (page : PageNo) (w : Offset) : addrAt page w = BitVec.ofNat 18 (page.toNat * 256 + w.toNat) := by
  apply BitVec.eq_of_toNat_eq
  rw [addrAt_toNat, BitVec.toNat_ofNat]
  omega

theorem reportPageOf_toNat (page : PageNo) : (reportPageOf page).toNat = (page.toNat + 1) % 1024 := by
  simp [reportPageOf, BitVec.toNat_add]

/-- Settles O4: the end of a reset takes the straps before it looks at what is stretched. -/
theorem resetEndReadsTheStraps : Obligations.ResetEndReadsTheStraps := by
  intro s straps reset
  have ended : s.endReset straps = State.admitStretched { s with resetHeld := false, strapPage := straps } := if_pos reset
  have strap : (s.endReset straps).strapPage = straps := by simp [ended]
  refine ⟨_, rfl, strap, by simp [ended], fun w => ⟨?_, ?_⟩, fun nothing => ?_⟩
  · simpa only [strap] using (s.endReset straps).classify_profile w
  · rw [← reportPageOf_toNat, ← addrAt_eq_ofNat]
    simpa only [State.reportPage, strap] using (s.endReset straps).classify_report w
  · rw [ended]
    exact State.admitStretched_nil nothing

/-! ### Timers -/

theorem State.timer_tick (s : State) (name : TimerName) : s.tick.timer name = (s.timer name).map fun k => k - 1 := by
  cases name with
  | stale src => cases src <;> rfl
  | silence a | dwell a | deadline a => simp only [State.timer, State.axis_tick]; rfl
  | settle | exitHold | blink | frameLost => rfl

theorem State.link_tick (s : State) (src : Source) : s.tick.link src = (s.link src).tick := by cases src <;> rfl

theorem State.exec_timeBasePulse {s : State} (awake : s.resetHeld = false) : exec .timeBasePulse s = .next s.tick := by
  change Host.Outcome.next (if s.resetHeld then s else s.tick) = _
  rw [awake]
  rfl

/-- Settles O5: a tick counts each timer where it stands. -/
theorem pulseCountsEveryRunningTimer : Obligations.PulseCountsEveryRunningTimer := by
  refine fun s => ⟨fun awake => ⟨_, State.exec_timeBasePulse awake, s.timer_tick, fun src => ?_, fun a => ?_, rfl⟩, fun reset => ?_⟩
  · rw [State.timer, State.link_tick]
    rfl
  · simp only [State.timer, State.axis_tick]
    rfl
  · change Host.Outcome.next (if s.resetHeld then s else s.tick) = _
    rw [if_pos reset]

theorem afterPulses_succ {s : State} (awake : s.resetHeld = false) (k : Nat) : afterPulses (k + 1) s = afterPulses k s.tick := by
  rw [afterPulses, State.exec_timeBasePulse awake]

/-- The timer after `k` pulses: `k` less, or still stopped. -/
theorem afterPulses_timer (k : Nat) {s : State} (awake : s.resetHeld = false) (name : TimerName) :
    (afterPulses k s).timer name = (s.timer name).map fun n => n - k := by
  induction k generalizing s with
  | zero => simp [afterPulses]
  | succ k ih =>
    rw [afterPulses_succ awake, ih (s := s.tick) awake, State.timer_tick, Option.map_map]
    congr 1
    funext n
    simp only [Function.comp_apply]
    omega

/-- Settles O6: each pulse takes one from the timer. -/
theorem timerExpiresAtItsNthPulse : Obligations.TimerExpiresAtItsNthPulse := by
  refine fun s name awake => ⟨fun n set => ⟨fun k before => ?_, ?_⟩, fun stopped k => ?_⟩
  · rw [afterPulses_timer k awake, set]
    simp only [Option.map_some, Timer.due, beq_eq_false_iff_ne, ne_eq, Option.some.injEq]
    omega
  · rw [afterPulses_timer n awake, set]
    simp [Timer.due]
  · rw [afterPulses_timer k awake, stopped]
    rfl

/-! ### The arbiter's requests (R103) -/

theorem ReportWord.mem_all (w : ReportWord) : w ∈ ReportWord.all := by
  cases w with
  | biasX src | biasY src | biasZ src => cases src <;> decide
  | axisStatus a | intent a | output a | correction a => revert a; decide
  | _ => decide

theorem anyAxis_iff (f : AxisId → Bool) : anyAxis f = true ↔ ∃ a, f a = true := by
  refine ⟨fun any => ?_, fun ⟨a, h⟩ => anyAxis_of h⟩
  simp only [anyAxis, Bool.or_eq_true] at any
  obtain ((h | h) | h) | h := any <;> exact ⟨_, h⟩

theorem State.refreshWaiting_isSome (s : State) : s.refreshWaiting.isSome = refreshWaits s := by
  rw [Bool.eq_iff_iff, refreshWaits, anyAxis_iff, State.refreshWaiting, List.find?_isSome]
  simp

theorem State.reportWaiting_eq (s : State) : s.reportWaiting = reportWaits s := by
  rw [Bool.eq_iff_iff, State.reportWaiting, State.lowestDirty, List.find?_isSome, reportWaits, List.any_eq_true]

theorem State.ringWaiting_eq (s : State) : s.ringWaiting = ringWaits s := by
  unfold State.ringWaiting State.nextRingWord ringWaits
  cases s.ring.staged with
  | none => simp
  | some words => by_cases below : s.ring.granted < 12 <;> simp [below]

theorem State.sweepWaiting_eq (s : State) : s.sweepWaiting = sweepWaits s := by
  unfold State.sweepWaiting sweepWaits
  cases s.profile.sweep <;> simp [Sweep.isDone]

theorem State.topOwn_eq (s : State) : s.topOwn =
    if refreshWaits s then some .refresh else if s.severity.boostHeld.isSome then some .boost else if reportWaits s then some .report
    else if ringWaits s then some .ring else if sweepWaits s then some .sweep else none := by
  rw [State.topOwn, State.refreshWaiting_isSome, State.boostWaiting, State.reportWaiting_eq, State.ringWaiting_eq, State.sweepWaiting_eq]

theorem State.topOwn_isSome (s : State) : s.topOwn.isSome = ownWaits s := by
  rw [State.topOwn_eq, ownWaits]
  cases refreshWaits s <;> cases s.severity.boostHeld.isSome <;> cases reportWaits s <;> cases ringWaits s <;> cases sweepWaits s <;> rfl

theorem State.grantsHead_iff (s : State) :
    s.grantsHead = true ↔ s.portFree = true ∧ s.cport.queue ≠ [] ∧ (ownWaits s = false ∨ s.mport.starvation < 4) := by
  rw [← State.topOwn_isSome]
  cases top : s.topOwn <;> simp [State.grantsHead, top, and_assoc]

theorem State.grantsOwn_iff (s : State) (r : OwnRequest) :
    s.grantsOwn r = true ↔ s.portFree = true ∧ s.topOwn = some r ∧ (s.cport.queue = [] ∨ 4 ≤ s.mport.starvation) := by
  simp [State.grantsOwn, and_assoc]

/-! ### Grants that the arbiter does not make -/

theorem State.grantHead_of_not {s : State} (h : ¬ s.grantsHead = true) : s.grantHead = s := if_neg h

theorem OwnRequest.grant_of_busy {s : State} (h : s.resetHeld = true ∨ s.mport.busy ≠ none) (r : OwnRequest) : r.grant s = s := by
  refine OwnRequest.grant_of_not ?_
  rw [← Bool.not_eq_true, State.grantsOwn_iff, State.portFree_iff]
  rintro ⟨⟨awake, idle⟩, -⟩
  obtain reset | busy := h
  · rw [awake] at reset; cases reset
  · exact busy idle

/-- An own request below the highest rank that waits is not granted. -/
theorem OwnRequest.grant_of_topOwn_ne {s : State} {r : OwnRequest} (h : s.topOwn ≠ some r) : r.grant s = s := by
  refine OwnRequest.grant_of_not ?_
  rw [← Bool.not_eq_true, State.grantsOwn_iff]
  rintro ⟨-, top, -⟩
  exact h top

theorem State.expiry_of_not_due {s : State} {name : TimerName} (h : s.timer name ≠ some 0) : exec name.expiry s = .next s := by
  have due : Timer.due (s.timer name) = false := by simpa [Timer.due] using h
  cases name with
  | stale src => exact congrArg Host.Outcome.next (if_pos (by simpa [State.timer] using due))
  | silence a => exact congrArg Host.Outcome.next (if_pos (by simpa [State.timer] using due))
  | dwell a => exact congrArg Host.Outcome.next (if_pos (by simpa [State.timer] using due))
  | deadline a => exact congrArg Host.Outcome.next (if_pos (by simpa [State.timer] using due))
  | settle => exact congrArg Host.Outcome.next (if_neg (by simpa [State.timer] using due))
  | exitHold => exact congrArg Host.Outcome.next (if_neg (by simpa [State.timer] using due))
  | blink => exact congrArg Host.Outcome.next (if_neg (by simpa [State.timer] using due))
  | frameLost => exact congrArg Host.Outcome.next (if_pos (by simpa [State.timer] using due))

theorem Assembly.complete_eq_none {asm : Assembly} (h : ∀ f, asm = .collecting f → f.length ≠ 9) : asm.complete = none := by
  cases asm with
  | hunting => rfl
  | collecting f => exact if_neg (h f rfl)

theorem State.checkFrame_of_incomplete {s : State} {line : Source} (h : (s.link line).assembly.complete = none) : s.checkFrame line = s := by
  rw [State.checkFrame, h]

/-- Settles O7: each row asks its occasion first. -/
theorem commandsWithoutTheirOccasionChangeNothing : Obligations.CommandsWithoutTheirOccasionChangeNothing := by
  intro s
  have own : ∀ {r : OwnRequest} {t : State}, r.grant s = s → t = r.grant s → Host.Outcome.next t = (.next s : Host.Outcome State Fault Refusal) :=
    fun none grant => by rw [grant, none]
  have below : ∀ {r : OwnRequest} {t : State}, s.topOwn ≠ some r → t = r.grant s →
      Host.Outcome.next t = (.next s : Host.Outcome State Fault Refusal) := fun top => own (OwnRequest.grant_of_topOwn_ne top)
  refine ⟨fun name => State.expiry_of_not_due, fun line incomplete => ?_, fun idle c rows => ?_, fun busy c rows => ?_, fun awake straps => ?_,
    fun turn => ?_, fun waits starvation c rows => ?_, fun refresh => ?_, fun above => ?_, fun above => ?_, fun above => ?_, fun above => ?_⟩
  · refine congrArg Host.Outcome.next ?_
    rw [State.checkFrame_of_incomplete (Assembly.complete_eq_none incomplete), ite_self]
  · simp only [List.mem_cons, List.not_mem_nil, or_false] at rows
    obtain rfl | rfl | rfl | rfl | rfl := rows
    · exact congrArg Host.Outcome.next (by simp [State.completeWrite, idle])
    · exact congrArg Host.Outcome.next (by simp [State.completeRingWord, idle])
    · exact congrArg Host.Outcome.next (by simp [State.completeSweepRead, idle])
    · exact congrArg Host.Outcome.next (by simp [State.completeRead, idle])
    · exact congrArg Host.Outcome.next (by simp [State.completeEventRead, idle])
  · simp only [List.mem_cons, List.not_mem_nil, or_false] at rows
    have head : ¬ s.grantsHead = true := by
      rw [State.grantsHead_iff, State.portFree_iff]
      rintro ⟨⟨awake, idle⟩, -⟩
      simp [awake, idle] at busy
    obtain rfl | rfl | rfl | rfl | rfl | rfl := rows
    · exact congrArg Host.Outcome.next (State.grantHead_of_not head)
    · exact own (OwnRequest.grant_of_busy busy .refresh) rfl
    · exact own (OwnRequest.grant_of_busy busy .boost) rfl
    · exact own (OwnRequest.grant_of_busy busy .report) rfl
    · exact own (OwnRequest.grant_of_busy busy .ring) rfl
    · exact own (OwnRequest.grant_of_busy busy .sweep) rfl
  · exact congrArg Host.Outcome.next (if_neg (by simp [awake]))
  · refine congrArg Host.Outcome.next (State.grantHead_of_not ?_)
    rw [State.grantsHead_iff]
    rintro ⟨-, queued, first⟩
    obtain empty | ⟨waits, starved⟩ := turn
    · exact queued empty
    · simp [waits, starved] at first
  · have off : ∀ r : OwnRequest, r.grant s = s := fun r => OwnRequest.grant_of_not (by
      rw [← Bool.not_eq_true, State.grantsOwn_iff]
      rintro ⟨-, -, empty | starved⟩
      · exact waits empty
      · omega)
    simp only [List.mem_cons, List.not_mem_nil, or_false] at rows
    obtain rfl | rfl | rfl | rfl | rfl := rows
    · exact own (off .refresh) rfl
    · exact own (off .boost) rfl
    · exact own (off .report) rfl
    · exact own (off .ring) rfl
    · exact own (off .sweep) rfl
  · refine below (r := .refresh) ?_ rfl
    rw [State.topOwn_eq]
    simp only [refresh, Bool.false_eq_true, if_false]
    split_ifs <;> simp
  · refine below (r := .boost) ?_ rfl
    rw [State.topOwn_eq]
    split_ifs <;> simp_all
  · refine below (r := .report) ?_ rfl
    rw [State.topOwn_eq]
    split_ifs <;> simp_all
  · refine below (r := .ring) ?_ rfl
    rw [State.topOwn_eq]
    split_ifs <;> simp_all
  · refine below (r := .sweep) ?_ rfl
    rw [State.topOwn_eq]
    split_ifs <;> simp_all

end Sys2Proof.Machine
end

section
/-! Frame assembly and the judgement of a complete frame (R2, R5 to R11). -/

namespace Sys2Proof.Machine

/-! ### Frame assembly -/

theorem State.setAssembly_eq (s : State) (line : Source) (asm : Assembly) :
    s.setAssembly line asm = { s with links := s.links.set line { s.link line with assembly := asm } } := rfl

theorem PerSource.get_set {α : Type} (p : PerSource α) (src other : Source) (v : α) :
    (p.set src v).get other = if other = src then v else p.get other := by cases src <;> cases other <;> rfl

theorem PerSource.set_get {α : Type} (p : PerSource α) (src : Source) : p.set src (p.get src) = p := by cases src <;> rfl

theorem State.setAssembly_of_eq {s : State} {line : Source} {asm : Assembly} (h : (s.link line).assembly = asm) :
    s.setAssembly line asm = s := by
  have link : { s.link line with assembly := asm } = s.link line := by rw [← h]
  rw [State.setAssembly_eq, link, State.link, PerSource.set_get]

theorem State.setAssembly_link (s : State) (line : Source) (asm : Assembly) :
    (s.setAssembly line asm).link line = { s.link line with assembly := asm } := by
  rw [State.setAssembly, State.link_setLink, if_pos rfl]

/-- A rescan opens at the byte after the first 0xA5 (R7). -/
theorem rescan_cases (f : List Byte) :
    (0xA5 ∉ f ∧ rescan f = .hunting) ∨
      ∃ before after, f = before ++ 0xA5 :: after ∧ 0xA5 ∉ before ∧ rescan f = .collecting after := by
  unfold rescan
  cases dropped : f.dropWhile fun b => b != syncByte with
  | nil =>
    left
    rw [List.dropWhile_eq_nil_iff] at dropped
    exact ⟨fun sync => by simpa [syncByte] using dropped _ sync, rfl⟩
  | cons b after =>
    right
    have found : b = 0xA5 := by
      have head := List.head?_dropWhile_not (fun b => b != syncByte) f
      rw [dropped] at head
      simpa [syncByte] using head
    refine ⟨f.takeWhile fun b => b != syncByte, after, ?_, fun sync => ?_, rfl⟩
    · rw [← found, ← dropped, List.takeWhile_append_dropWhile]
    · simpa [syncByte] using List.mem_takeWhile_imp sync

theorem rescan_incomplete {f : List Byte} (nine : f.length = 9) : (rescan f).complete = none := by
  obtain ⟨-, hunts⟩ | ⟨before, after, whole, -, collects⟩ := rescan_cases f
  · rw [hunts]; rfl
  · rw [collects]
    refine if_neg ?_
    rw [whole] at nine
    simp only [List.length_append, List.length_cons] at nine
    omega

/-- The links after an accepted frame. -/
theorem State.acceptFrame_links (s : State) (line : Source) (f : List Byte) :
    (s.acceptFrame line f).links = s.links.set line (acceptedLink (s.link line) f) := by
  have seen : (s.frameSeen line f).links = s.links.set line (acceptedLink (s.link line) f) := by
    unfold State.frameSeen
    simp only []
    split
    · rfl
    · simp [State.setLink]
  rw [State.acceptFrame_eq]
  split
  · simp [seen]
  · exact seen

/-- A frame once judged leaves no complete frame on its line. -/
theorem State.checkFrame_incomplete (s : State) (line : Source) : ((s.checkFrame line).link line).assembly.complete = none := by
  unfold State.checkFrame
  split
  next none => exact none
  next f complete =>
    have nine : f.length = 9 := by
      cases asm : (s.link line).assembly with
      | hunting => rw [asm] at complete; cases complete
      | collecting g =>
        rw [asm] at complete
        simp only [Assembly.complete] at complete
        split_ifs at complete with nine
        cases complete
        exact nine
    unfold State.judgeFrame
    split_ifs
    · rw [State.setAssembly_link]
      exact rescan_incomplete nine
    · rw [State.setAssembly_link]
      rfl
    · rw [State.link, State.acceptFrame_links, PerSource.get_set, if_pos rfl]
      rfl

theorem State.checkFrame_checkFrame (s : State) (line : Source) : (s.checkFrame line).checkFrame line = s.checkFrame line :=
  State.checkFrame_of_incomplete (s.checkFrame_incomplete line)

theorem State.exec_inertialFrame {s : State} (awake : s.resetHeld = false) (line : Source) :
    exec (.inertialFrame line) s = .next (s.checkFrame line) := by
  change Host.Outcome.next (if s.resetHeld then s else s.checkFrame line) = _
  rw [awake]; rfl

/-- The three line events check a complete frame, then move frame assembly. -/
theorem State.exec_lineEvents {s : State} (awake : s.resetHeld = false) (line : Source) (b : Byte) :
    exec (.goodByte line b) s = .next ((s.checkFrame line).setAssembly line (((s.checkFrame line).link line).assembly.take b)) ∧
    exec (.framingError line) s = .next ((s.checkFrame line).setAssembly line .hunting) ∧
    exec (.byteTimeout line) s = .next ((s.checkFrame line).setAssembly line .hunting) := by
  refine ⟨?_, ?_, ?_⟩
  · change Host.Outcome.next (if s.resetHeld then s else s.goodByte line b) = _
    rw [awake]; rfl
  · change Host.Outcome.next (if s.resetHeld then s else s.framingError line) = _
    rw [awake]; rfl
  · change Host.Outcome.next (if s.resetHeld then s else s.byteTimeout line) = _
    rw [awake]; rfl

/-- Settles O8: each line event checks a complete frame first, and then moves frame assembly as its state says. -/
theorem lineBytesMoveFrameAssembly : Obligations.LineBytesMoveFrameAssembly := by
  intro s line b
  simp only []
  refine ⟨fun awake hunts => ?_, fun f awake collects short => ?_, fun f ⟨awake, _, _⟩ => ?_, fun reset => ?_⟩
  · obtain ⟨byte, error, timeout⟩ := State.exec_lineEvents awake line b
    have none : s.checkFrame line = s := State.checkFrame_of_incomplete (by rw [hunts]; rfl)
    rw [byte, error, timeout, none, hunts, State.setAssembly_of_eq hunts]
    refine ⟨congrArg _ ?_, rfl, rfl⟩
    change s.setAssembly line (if b = 0xA5 then .collecting [] else .hunting) = _
    by_cases sync : b = 0xA5
    · rw [if_pos sync, if_pos sync]
      rfl
    · rw [if_neg sync, if_neg sync]
      exact State.setAssembly_of_eq hunts
  · obtain ⟨byte, error, timeout⟩ := State.exec_lineEvents awake line b
    have none : s.checkFrame line = s := State.checkFrame_of_incomplete (by rw [collects]; exact if_neg short)
    rw [byte, error, timeout, none, collects]
    exact ⟨rfl, rfl, rfl⟩
  · have awake' : (s.checkFrame line).resetHeld = false := by simpa using awake
    obtain ⟨byte, error, timeout⟩ := State.exec_lineEvents awake line b
    obtain ⟨byte', error', timeout'⟩ := State.exec_lineEvents awake' line b
    refine ⟨_, State.exec_inertialFrame awake line, ?_⟩
    rw [byte, error, timeout, byte', error', timeout', State.checkFrame_checkFrame]
    exact ⟨rfl, rfl, rfl⟩
  · exact ⟨congrArg _ (if_pos reset), congrArg _ (if_pos reset), congrArg _ (if_pos reset), congrArg _ (if_pos reset)⟩

/-! ### The judgement of a complete frame -/

theorem reports_mark (s : State) (w : ReportWord) : Reports s (s.mark w) [] [w] :=
  ⟨fun e => by simp, fun v => by simp [State.isDirty_mark, Bool.or_comm]⟩

theorem reports_of_report_eq {s t : State} (h : t.report = s.report) : Reports s t [] [] :=
  ⟨fun e => by simp [State.isPending_congr h], fun w => by simp [State.isDirty_congr h]⟩

theorem FrameReady.exec {s : State} {line : Source} {f : List Byte} (h : FrameReady s line f) :
    exec (.inertialFrame line) s = .next (s.judgeFrame line f) := by
  obtain ⟨awake, collects, nine⟩ := h
  rw [State.exec_inertialFrame awake, State.checkFrame, collects, Assembly.complete, if_pos nine]

/-- With no source selected by the frame, the record is all that an acceptance writes, and SOURCE_STATE where the state changed. -/
theorem State.acceptFrame_of_unselected {s : State} {line : Source} {f : List Byte} (other : s.selected ≠ some line)
    (stays : (s.link line).state = .live ∨ s.selected ≠ none ∨ s.profileActive = false) :
    s.acceptFrame line f =
      if (s.link line).state = .live then s.setLink line (acceptedLink (s.link line) f)
      else (s.setLink line (acceptedLink (s.link line) f)).mark .sourceState := by
  have seen : s.frameSeen line f = if (s.link line).state = .live then s.setLink line (acceptedLink (s.link line) f)
      else (s.setLink line (acceptedLink (s.link line) f)).mark .sourceState := by
    unfold State.frameSeen
    simp only []
    split
    · rfl
    next becomes =>
      refine if_neg fun review => ?_
      simp only [Bool.and_eq_true, Option.isNone_iff_eq_none] at review
      obtain ⟨active, none⟩ := review
      obtain live | selected | empty := stays
      · exact becomes live
      · exact selected none
      · have active' : s.profileActive = true := active
        rw [empty] at active'
        cases active'
  have unselected : ¬ (s.frameSeen line f).selected = some line := by
    rw [seen]
    split <;> exact other
  rw [State.acceptFrame_eq, if_neg unselected, seen]

/-- Settles O10: a frame that fails writes frame assembly alone; of an accepted one with no selection to follow, the source's record. -/
theorem completeFrameIsJudgedByItsCheck : Obligations.CompleteFrameIsJudgedByItsCheck := by
  intro s line f ready
  refine ⟨fun fails => ⟨rescan f, ?_, ?_⟩, fun passes selfTest => ?_, fun passes selfTest other stays => ?_⟩
  · rw [ready.exec, State.judgeFrame, fails]
    rfl
  · obtain ⟨none, hunts⟩ | ⟨before, after, whole, first, collects⟩ := rescan_cases f
    · exact .inl ⟨none, hunts⟩
    · refine .inr ⟨before, after, whole, first, collects, ?_⟩
      obtain ⟨-, -, nine⟩ := ready
      rw [whole] at nine
      simp only [List.length_append, List.length_cons] at nine
      omega
  · rw [ready.exec, State.judgeFrame, passes, frameSelfTestFail, selfTest]
    rfl
  · have accepted : s.judgeFrame line f = s.acceptFrame line f := by
      rw [State.judgeFrame, passes, frameSelfTestFail, selfTest]
      rfl
    refine ⟨_, ready.exec, ?_⟩
    rw [accepted, State.acceptFrame_of_unselected other stays]
    split
    · exact ⟨rfl, reports_of_report_eq rfl⟩
    · exact ⟨rfl, reports_mark (s.setLink line (acceptedLink (s.link line) f)) .sourceState⟩

end Sys2Proof.Machine
end

section
/-! Classification (R82, R84, R86), reads at the C-port (R93, R100, R107), and the readys of writes (R102, R152). -/

namespace Sys2Proof.Machine

/-! ### Classification -/

theorem pageOf_eq_iff (addr : Addr) (page : PageNo) : pageOf addr = page ↔ addr.toNat / 256 = page.toNat := by
  rw [← BitVec.toNat_inj, pageOf_toNat]

theorem offsetOf_eq_ofNat (addr : Addr) : offsetOf addr = BitVec.ofNat 8 (addr.toNat % 256) := by
  apply BitVec.eq_of_toNat_eq
  rw [offsetOf_toNat, BitVec.toNat_ofNat, Nat.mod_mod_of_dvd _ (by decide)]

/-- An address lies in the ring region when it is one of the N × 12 from the base on, wrapping. -/
theorem Page.inRing_iff (p : Page) (addr : Addr) :
    p.inRing addr = true ↔ p.ringEnable = true ∧ ∃ i < 12 * p.ringLength, addr.toNat = (256 * p.ringBase + i) % 262144 := by
  have start : p.ringStart.toNat = (256 * p.ringBase) % 262144 := by simp [Page.ringStart]
  have distance : (addr - p.ringStart).toNat = (262144 - p.ringStart.toNat + addr.toNat) % 262144 := BitVec.toNat_sub ..
  have below := addr.isLt
  simp only [Page.inRing, Page.hasRing, Bool.and_eq_true, bne_iff_ne, decide_eq_true_eq, distance, start]
  constructor
  · rintro ⟨⟨enable, -⟩, inside⟩
    exact ⟨enable, _, inside, by omega⟩
  · rintro ⟨enable, i, inside, at_i⟩
    exact ⟨⟨enable, by omega⟩, by omega⟩

theorem State.inRing_iff (s : State) (addr : Addr) :
    s.inRing addr = true ↔ ∃ p, s.profile.active = some p ∧ p.ringEnable = true ∧
      ∃ i < 12 * p.ringLength, addr.toNat = (256 * p.ringBase + i) % 262144 := by
  cases active : s.profile.active with
  | none => simp [State.inRing, active]
  | some p => simp [State.inRing, active, Page.inRing_iff]

theorem Page.windows_getElem (p : Page) (n : Fin 8) : p.windows[n.val]'(by simp [Page.windows]) = p.window n := by
  fin_cases n <;> rfl

/-- The lowest-numbered window that matches decides. -/
theorem decidingWindow_eq {p : Page} {addr : Addr} {n : Fin 8} (covers : (p.window n).covers addr = true)
    (lowest : ∀ m < n, (p.window m).covers addr = false) : decidingWindow p.windows addr = some (p.window n) := by
  rw [decidingWindow, List.find?_eq_some_iff_getElem]
  refine ⟨covers, n.val, by simp [Page.windows], p.windows_getElem n, fun m before => ?_⟩
  rw [Page.windows_getElem p ⟨m, by omega⟩, lowest ⟨m, by omega⟩ before]
  rfl

theorem decidingWindow_eq_none {p : Page} {addr : Addr} (none : ∀ n, (p.window n).covers addr = false) :
    decidingWindow p.windows addr = Option.none := by
  rw [decidingWindow, List.find?_eq_none]
  intro w listed
  obtain ⟨n, rfl⟩ := (p.mem_windows_iff w).mp listed
  simp [none n]

theorem State.classify_of_unpaged {s : State} {addr : Addr} (profile : addr.toNat / 256 ≠ s.strapPage.toNat)
    (report : addr.toNat / 256 ≠ (s.strapPage.toNat + 1) % 1024) :
    s.classify addr = if s.inRing addr then .ringWord else
      match decidingWindow s.table addr with
      | some w => w.txnClass
      | none => .unmatched := by
  have profile' : pageOf addr ≠ s.strapPage := mt (pageOf_eq_iff addr _).mp profile
  have report' : pageOf addr ≠ s.reportPage := mt (pageOf_eq_iff addr _).mp (by rwa [State.reportPage, reportPageOf_toNat])
  rw [State.classify, if_neg profile', if_neg report'] <;> rfl

/-- Settles O34: the four tests in their order, each as its numbers say. -/
theorem classificationFollowsTheFirstTest : Obligations.ClassificationFollowsTheFirstTest := by
  refine fun s addr => ⟨fun profile => ?_, fun report => ?_, fun profile report => ⟨fun ring => ?_, fun ring p active n covers lowest => ?_,
    fun ring uncovered => ?_⟩⟩
  · rw [State.classify, if_pos ((pageOf_eq_iff addr _).mpr profile), offsetOf_eq_ofNat]
  · have isReport : pageOf addr = s.reportPage := (pageOf_eq_iff addr _).mpr (by rwa [State.reportPage, reportPageOf_toNat])
    have notProfile : pageOf addr ≠ s.strapPage := by
      rw [isReport]
      exact reportPageOf_ne s.strapPage
    rw [State.classify, if_neg notProfile, if_pos isReport, offsetOf_eq_ofNat]
  · rw [State.classify_of_unpaged profile report, if_pos ((s.inRing_iff addr).mpr ring)]
  · have table : s.table = p.windows := by simp [State.table, active]
    have decides : decidingWindow p.windows addr = some (p.window n) :=
      decidingWindow_eq ((Window.covers_iff _ _).mpr covers) fun m before => by
        rw [← Bool.not_eq_true, Window.covers_iff]
        exact lowest m before
    rw [State.classify_of_unpaged profile report, if_neg (mt (s.inRing_iff addr).mp ring), table, decides]
    cases kind : (p.window n).kind <;> simp [Window.txnClass, kind]
  · have none : decidingWindow s.table addr = none := by
      cases active : s.profile.active with
      | none => simp [State.table, active, decidingWindow]
      | some p =>
        have table : s.table = p.windows := by simp [State.table, active]
        rw [table]
        refine decidingWindow_eq_none fun n => ?_
        rw [← Bool.not_eq_true, Window.covers_iff]
        exact uncovered p active n
    rw [State.classify_of_unpaged profile report, if_neg (mt (s.inRing_iff addr).mp ring), none]

/-! ### Reads -/

/-- Settles O39: a read is queued, and stands in flight from then on. -/
theorem readJoinsTheQueueAndClosesThePort : Obligations.ReadJoinsTheQueueAndClosesThePort := by
  intro s addr lanes takes
  have accepted : exec (.controllerRead addr lanes) s = .next (s.accept (.read addr lanes)) :=
    congrArg Host.Outcome.next (State.offer_of_takes takes _)
  refine ⟨_, accepted, ?_, ?_⟩
  · simp only [State.accept, State.enqueue]
    cases s.classify addr <;> rfl
  · simp [State.accept, State.enqueue, State.cportOpen, State.readInFlight, QEntry.isRead]

theorem State.axisActive_iff (s : State) (a : AxisId) : s.axisActive a = true ↔ (s.axis a).state ≠ .off := by
  simp [State.axisActive, AxisState.active]

theorem State.readsBack_iff (s : State) (a : AxisId) (addr : Addr) :
    s.readsBack a addr = true ↔ s.page.readback a = true ∧ (s.axis a).state ≠ .off ∧ (s.axis a).outAddr = some addr := by
  simp [State.readsBack, State.axisActive_iff, and_assoc]

theorem State.isPending_clearEvents (s : State) (w : Word) (e : Event) :
    (s.clearEvents w).isPending e = (s.isPending e && !w.getLsbD e.bit) := by
  have place : e.bit < 15 := by cases e <;> decide
  simp [State.isPending, State.clearEvents, place]

theorem State.isDirty_clearEvents (s : State) (w : Word) (v : ReportWord) :
    (s.clearEvents w).isDirty v = (s.isDirty v || decide (v = .eventPending)) := by
  rw [State.clearEvents, State.isDirty_mark, Bool.or_comm]
  rfl

/-- The return of a read with nothing stretched. -/
theorem State.exec_readReturn {s : State} {w : MTxn} {bind : Option AxisId} (busy : s.mport.busy = some w)
    (kind : w.kind = .controllerRead bind) (nothing : s.cport.offered = []) :
    exec .readReturn s = .next { s with
      mport := { s.mport with busy := none }
      cport := { s.cport with readData := some (s.returnedWord bind w.addr) }
      report := (if w.addr = s.eventPendingAddr then s.clearEvents (s.returnedWord bind w.addr) else s).report } := by
  refine congrArg Host.Outcome.next ?_
  simp only [State.completeRead, busy, kind, State.returnRead]
  split
  · exact State.admitStretched_nil nothing
  · exact State.admitStretched_nil nothing

/-- Settles O45: the word is the axis's output under read-back, else the RAM's, and the return of EVENT_PENDING clears what it has shown. -/
theorem readReturnsAndClearsEvents : Obligations.ReadReturnsAndClearsEvents := by
  intro s w bind busy kind nothing
  refine ⟨_, s.returnedWord bind w.addr, State.exec_readReturn busy kind nothing, fun a bound back => ?_, fun notBack => ?_, rfl,
    fun other => ?_, fun own => ?_⟩
  · subst bound
    obtain ⟨b, same, back⟩ := back
    cases same
    simp only [State.returnedWord, (s.readsBack_iff a w.addr).mpr back, if_true]
    rfl
  · cases bind with
    | none => rfl
    | some a =>
      have ram : ¬ s.readsBack a w.addr = true := fun back => notBack ⟨a, rfl, (s.readsBack_iff a w.addr).mp back⟩
      simp [State.returnedWord, ram]
  · have other' : w.addr ≠ s.eventPendingAddr := other
    simp only [if_neg other']
  · have own' : w.addr = s.eventPendingAddr := own
    refine ⟨?_, fun e => ?_, fun v => ?_⟩
    · rw [← State.exec_readReturn busy kind nothing]
      refine congrArg Host.Outcome.next ?_
      simp only [State.completeEventRead, busy]
      exact if_pos own'
    · rw [← State.isPending_clearEvents]
      exact State.isPending_congr (by simp only [if_pos own']) e
    · rw [← State.isDirty_clearEvents s (s.returnedWord bind w.addr)]
      exact State.isDirty_congr (by simp only [if_pos own']) v

end Sys2Proof.Machine
end

section
/-! What changes report one after another (R162, R163), and the commands that a block answers without moving an axis: the common tests (R161),
ZERO (R33), EXCITE (R121, R122) and TC_SET (R146). -/

namespace Sys2Proof.Machine

/-! ### Reports one after another -/

theorem Reports.trans {s t u : State} {es es' : List Event} {ws ws' : List ReportWord} (h : Reports s t es ws) (h' : Reports t u es' ws') :
    Reports s u (es ++ es') (ws ++ ws') := by
  obtain ⟨raises, marks⟩ := h
  obtain ⟨raises', marks'⟩ := h'
  have pending : ∀ e, t.isPending e = (s.isPending e || decide (e ∈ es)) := raises
  refine ⟨fun e => by rw [raises' e, pending e]; simp [Bool.or_assoc], fun w => ?_⟩
  have pendingSet : ((es ++ es').any fun e => !s.isPending e) =
      ((es.any fun e => !s.isPending e) || es'.any fun e => !t.isPending e) := by
    rw [Bool.eq_iff_iff]
    simp only [List.any_append, List.any_eq_true, Bool.or_eq_true, Bool.not_eq_true', pending, Bool.or_eq_false_iff, decide_eq_false_iff_not]
    constructor
    · rintro (⟨e, raised, new⟩ | ⟨e, raised, new⟩)
      · exact .inl ⟨e, raised, new⟩
      · by_cases before : e ∈ es
        · exact .inl ⟨e, before, new⟩
        · exact .inr ⟨e, raised, new, before⟩
    · rintro (⟨e, raised, new⟩ | ⟨e, raised, new, -⟩)
      · exact .inl ⟨e, raised, new⟩
      · exact .inr ⟨e, raised, new⟩
  rw [marks' w, marks w, pendingSet, Bool.eq_iff_iff]
  simp only [Bool.or_eq_true, Bool.and_eq_true, decide_eq_true_eq, List.mem_append]
  tauto

/-- The lists of a report count as sets. -/
theorem Reports.congr {s t : State} {es es' : List Event} {ws ws' : List ReportWord} (h : Reports s t es ws) (events : ∀ e, e ∈ es' ↔ e ∈ es)
    (words : ∀ w, w ∈ ws' ↔ w ∈ ws) : Reports s t es' ws' := by
  obtain ⟨raises, marks⟩ := h
  have any : ∀ P : Event → Bool, es'.any P = es.any P := fun P => by
    rw [Bool.eq_iff_iff]
    simp [events]
  exact ⟨fun e => by rw [raises e, decide_eq_decide.mpr (events e)], fun w => by rw [marks w, decide_eq_decide.mpr (words w), any]⟩

/-- A change that leaves the report comes before one that reports. -/
theorem Reports.after {s t u : State} {es : List Event} {ws : List ReportWord} (h : Reports t u es ws) (same : t.report = s.report) :
    Reports s u es ws := (reports_of_report_eq same).trans h

theorem Reports.isPending {s t : State} {es : List Event} {ws : List ReportWord} (h : Reports s t es ws) {e : Event} (mem : e ∈ es) :
    t.isPending e = true := by
  rw [h.1 e]
  simp [mem]

theorem Reports.isDirty {s t : State} {es : List Event} {ws : List ReportWord} (h : Reports s t es ws) {w : ReportWord} (mem : w ∈ ws) :
    t.isDirty w = true := by
  rw [h.2 w]
  simp [mem]

theorem Reports.isPending_of_notMem {s t : State} {es : List Event} {ws : List ReportWord} (h : Reports s t es ws) {e : Event}
    (out : e ∉ es) : t.isPending e = s.isPending e := by
  rw [h.1 e]
  simp [out]

theorem Reports.isDirty_of_notMem {s t : State} {es : List Event} {ws : List ReportWord} (h : Reports s t es ws) {w : ReportWord}
    (out : w ∉ ws) (other : w ≠ .eventPending) : t.isDirty w = s.isDirty w := by
  rw [h.2 w]
  simp [out, other]

theorem Reports.marksWithin {s t : State} {es : List Event} {ws must may : List ReportWord} (h : Reports s t es ws) (musts : must ⊆ ws)
    (within : ws ⊆ must ++ may) (pendingWord : .eventPending ∈ must ++ may) : MarksWithin s t must may := by
  refine ⟨fun w needed => h.isDirty (musts needed), fun w needed allowed => ?_⟩
  have out : w ∉ must ++ may := by simp [needed, allowed]
  exact h.isDirty_of_notMem (fun mem => out (within mem)) fun own => out (own ▸ pendingWord)

/-! ### The result of a command (R161) -/

theorem State.reportCommand_eq_setReport (s : State) (code : Byte) (r : CmdResult) :
    s.reportCommand code r = { s with
      profile := { s.profile with cmdCode := code, cmdResult := r }
      report := (s.reportCommand code r).report } := State.raise_eq_setReport _ _

theorem reports_reportCommand (s : State) (code : Byte) (r : CmdResult) :
    Reports s (s.reportCommand code r) [.commandDone] [.commandResult] :=
  ((reports_mark _ _).trans (reports_raise _ _)).after rfl

theorem refusedWith_reportCommand (s : State) (code operand : Byte) (r : CmdResult) :
    RefusedWith s ((commandSeen s code operand).reportCommand code r) code operand r :=
  ⟨State.reportCommand_eq_setReport _ _ _, (reports_reportCommand _ _ _).after rfl⟩

/-- A command that meets none of the common refusals answers what its owner answers. -/
theorem CommandReady.offerCommand {s : State} (ready : CommandReady s) {code operand : Byte} (isCommand : code ≠ 0)
    (axis : takesAxis code.toNat = true → operand.toNat ≤ 3) :
    s.offerCommand code operand =
      (ownerCommand code.toNat (axisOperand operand) (commandSeen s code operand)).2.reportCommand code
        (ownerCommand code.toNat (axisOperand operand) (commandSeen s code operand)).1 := by
  obtain ⟨takes, done, active⟩ := ready
  rw [State.offerCommand_of_takes takes operand isCommand, runCommand_of_ready ⟨takes, done, active⟩ axis]

/-! ### The common tests (R161) -/

/-- The common refusals, in their order. -/
def commonRefusal (s : State) (code operand : Byte) : Option CmdResult :=
  if s.profile.sweep ≠ .done then some .notReady
  else if s.profileActive = false ∧ code ≠ 7 then some .noProfile
  else if code.toNat ≤ 4 ∧ 3 < operand.toNat then some .badAxis
  else if 8 < code.toNat then some .unknown
  else none

theorem Sweep.isDone_iff (w : Sweep) : w.isDone = true ↔ w = .done := by cases w <;> simp [Sweep.isDone]

theorem ownerCommand_of_unknown {code : Nat} (unknown : 8 < code) (a : AxisId) (s : State) : ownerCommand code a s = (.unknown, s) := by
  match code, unknown with
  | n + 9, _ => rfl

theorem runCommand_of_refused {s : State} {code operand : Byte} {r : CmdResult} (isCommand : code ≠ 0)
    (refused : commonRefusal s code operand = some r) :
    runCommand code operand (commandSeen s code operand) = (r, commandSeen s code operand) := by
  have sweep : (commandSeen s code operand).profile.sweep.isDone = s.profile.sweep.isDone := rfl
  have active : (commandSeen s code operand).profileActive = s.profileActive := rfl
  have named : 1 ≤ code.toNat := Nat.pos_of_ne_zero fun zero => isCommand (BitVec.eq_of_toNat_eq zero)
  unfold runCommand
  rw [sweep, active]
  unfold commonRefusal at refused
  split_ifs at refused with sweeping empty noAxis unknown <;> cases refused
  · have isNot : s.profile.sweep.isDone = false := by
      rw [← Bool.not_eq_true, Sweep.isDone_iff]
      exact sweeping
    rw [isNot]
    rfl
  · rw [(Sweep.isDone_iff _).mpr (not_not.mp sweeping), if_neg (by decide)]
    exact if_pos (by simpa using empty)
  · have known : ¬ (!s.profileActive && code != 7) = true := by simpa using empty
    rw [(Sweep.isDone_iff _).mpr (not_not.mp sweeping), if_neg (by decide), if_neg known]
    exact if_pos (by simpa [takesAxis, named] using noAxis)
  · have known : ¬ (!s.profileActive && code != 7) = true := by simpa using empty
    have axis : ¬ (takesAxis code.toNat && decide (3 < operand.toNat)) = true := by simpa [takesAxis, named] using noAxis
    rw [(Sweep.isDone_iff _).mpr (not_not.mp sweeping), if_neg (by decide), if_neg known, if_neg axis, ownerCommand_of_unknown unknown]

/-- Settles O23: a command's row is its write, and the first common test that fails refuses it with nothing else changed. -/
theorem commonTestsRefuseInTheirOrder : Obligations.CommonTestsRefuseInTheirOrder := by
  intro s code operand isCommand takes
  refine ⟨fun r refused => ⟨_, rfl, ?_⟩, fun beyond => ⟨rfl, fun ready => ⟨_, rfl, ?_⟩⟩, rfl, rfl, rfl, rfl, rfl, rfl, rfl, rfl, rfl⟩
  · change RefusedWith s (s.offerCommand code operand) code operand r
    rw [State.offerCommand_of_takes takes operand isCommand, runCommand_of_refused isCommand refused]
    exact refusedWith_reportCommand s code operand r
  · have unknown : 8 < code.toNat := beyond
    have noAxis : takesAxis code.toNat = true → operand.toNat ≤ 3 := fun axis => by
      simp only [takesAxis, Bool.and_eq_true, decide_eq_true_eq] at axis
      omega
    rw [ready.offerCommand isCommand noAxis, ownerCommand_of_unknown unknown]
    exact refusedWith_reportCommand s code operand .unknown

/-! ### ZERO (R33) -/

theorem zeroCommand_of_unselected {s : State} (unselected : s.selected = none) : zeroCommand s = (.noSource, s) := by
  simp [zeroCommand, unselected]

theorem zeroCommand_of_busy {s : State} (selected : s.selected ≠ none) (running : s.capture.state = .running) :
    zeroCommand s = (.busy, s) := by
  obtain ⟨src, selected⟩ := Option.ne_none_iff_exists'.mp selected
  simp [zeroCommand, selected, running]

theorem zeroCommand_of_idle {s : State} {src : Source} (selected : s.selected = some src) (idle : s.capture.state = .idle) :
    zeroCommand s = (.accepted, { s with
      capture := { state := .running, source := src, sums := ⟨0, 0, 0⟩, count := 0 }
      zeroResult := .running src }.mark .zeroResult) := by
  simp [zeroCommand, selected, idle, Channels.zero]

/-- Settles O28: ZERO's tests read the selection and the capture, and its effect writes the capture and its result. -/
theorem zeroStartsACapture : Obligations.ZeroStartsACapture := by
  intro s operand ready
  have run : ∀ r, zeroCommand (commandSeen s 5 operand) = r → exec (.zero operand) s = .next (r.2.reportCommand 5 r.1) := fun r owner => by
    subst owner
    exact congrArg _ (ready.offerCommand (by decide) fun axis => absurd axis (by decide))
  refine ⟨fun unselected => ?_, fun selected running => ?_, fun src selected idle => ?_⟩
  · exact ⟨_, run _ (zeroCommand_of_unselected unselected), refusedWith_reportCommand _ _ _ _⟩
  · exact ⟨_, run _ (zeroCommand_of_busy selected running), refusedWith_reportCommand _ _ _ _⟩
  · exact ⟨_, run _ (zeroCommand_of_idle selected idle), State.reportCommand_eq_setReport _ _ _,
      ((reports_mark _ _).trans (reports_reportCommand _ _ _)).after rfl⟩

/-! ### EXCITE (R121, R122) -/

theorem commandSeen_word {s : State} {code operand : Byte} {w : Offset} (other : w ≠ 0) :
    (commandSeen s code operand).profile.shadow.word w = s.profile.shadow.word w := Page.word_setWord_ne _ _ other

theorem ExciteRequest.inRange_iff (r : ExciteRequest) :
    r.inRange = true ↔ ¬ (3 < r.axis ∨ 1 < r.waveform ∨ 4095 < r.amplitude ∨ r.halfPeriod = 0 ∨ 4095 < r.halfPeriod ∨ r.length = 0) := by
  simp only [ExciteRequest.inRange, Bool.and_eq_true, decide_eq_true_eq]
  omega

/-- The request that an EXCITE sees is that of the shadow. -/
theorem commandSeen_exciteRequest (s : State) (code operand : Byte) :
    (commandSeen s code operand).profile.shadow.exciteRequest = s.profile.shadow.exciteRequest := by
  simp only [Page.exciteRequest, Page.low, Page.high]
  rw [commandSeen_word (by decide), commandSeen_word (by decide), commandSeen_word (by decide), commandSeen_word (by decide)]

section exciteCommand

variable {s : State} {r : ExciteRequest} (request : s.profile.shadow.exciteRequest = r)
include request

theorem exciteCommand_of_bad (bad : ¬ r.inRange = true) : exciteCommand s = (.badParam, s) := by
  simp [exciteCommand, request, bad]

theorem exciteCommand_of_busy (good : r.inRange = true) (running : s.burst.state = .running) : exciteCommand s = (.busy, s) := by
  simp [exciteCommand, request, good, running]

theorem exciteCommand_of_elsewhere (good : r.inRange = true) (idle : s.burst.state = .idle)
    (elsewhere : (s.axis r.axisId).state ≠ .stabilising) : exciteCommand s = (.wrongState, s) := by
  simp [exciteCommand, request, good, idle, elsewhere]

theorem exciteCommand_of_unselected (good : r.inRange = true) (idle : s.burst.state = .idle)
    (stabilising : (s.axis r.axisId).state = .stabilising) (unselected : s.selected = none) : exciteCommand s = (.noSource, s) := by
  simp [exciteCommand, request, good, idle, stabilising, unselected]

theorem exciteCommand_of_ready (good : r.inRange = true) (idle : s.burst.state = .idle)
    (stabilising : (s.axis r.axisId).state = .stabilising) (selected : s.selected ≠ none) :
    exciteCommand s = (.accepted, { s with burst := r.burst, exciteResult := .running r.axisId }.mark .exciteResult) := by
  simp [exciteCommand, request, good, idle, stabilising, selected]

end exciteCommand

/-- Settles O29: EXCITE's tests in their order, and the burst of its request. -/
theorem exciteStartsABurst : Obligations.ExciteStartsABurst := by
  intro s operand ready p axis waveform amplitude half length bad
  have run : ∀ r, exciteCommand (commandSeen s 6 operand) = r → exec (.excite operand) s = .next (r.2.reportCommand 6 r.1) := fun r owner => by
    subst owner
    exact congrArg _ (ready.offerCommand (by decide) fun axis => absurd axis (by decide))
  have request := commandSeen_exciteRequest s 6 operand
  have inRange : s.profile.shadow.exciteRequest.inRange = true ↔ ¬ bad := ExciteRequest.inRange_iff _
  refine ⟨fun isBad => ?_, fun isGood running => ?_, fun a named isGood idle => ?_⟩
  · exact ⟨_, run _ (exciteCommand_of_bad request fun good => inRange.mp good isBad), refusedWith_reportCommand _ _ _ _⟩
  · exact ⟨_, run _ (exciteCommand_of_busy request (inRange.mpr isGood) running), refusedWith_reportCommand _ _ _ _⟩
  · have good := inRange.mpr isGood
    have axisId : s.profile.shadow.exciteRequest.axisId = a := by
      have val : s.profile.shadow.exciteRequest.axis = a.val := named.symm
      rw [ExciteRequest.axisId, val]
      exact Fin.ofNat_val_eq_self a
    have burst : s.profile.shadow.exciteRequest.burst =
        { state := .running, axis := a, waveform := if waveform = 0 then .square else .noise, amplitude := amplitude, halfPeriod := half,
          remaining := length, phase := 0, noise := 0x7FFF, x := (amplitude : Int) } := by
      rw [ExciteRequest.burst, axisId]
      rfl
    refine ⟨fun elsewhere => ?_, fun stabilising unselected => ?_, fun stabilising selected => ?_⟩
    · exact ⟨_, run _ (exciteCommand_of_elsewhere request good idle (by rw [axisId]; exact elsewhere)), refusedWith_reportCommand _ _ _ _⟩
    · exact ⟨_, run _ (exciteCommand_of_unselected request good idle (by rw [axisId]; exact stabilising) unselected),
        refusedWith_reportCommand _ _ _ _⟩
    · have started := exciteCommand_of_ready request good idle (by rw [axisId]; exact stabilising) selected
      rw [axisId, burst] at started
      exact ⟨_, run _ started, State.reportCommand_eq_setReport _ _ _, ((reports_mark _ _).trans (reports_reportCommand _ _ _)).after rfl⟩

/-! ### TC_SET (R146) -/

/-- TC_SET is run also while the profile is EMPTY. -/
theorem runCommand_tcSet {s : State} (done : s.profile.sweep = .done) (operand : Byte) : runCommand 7 operand s = tcSetCommand s := by
  simp [runCommand, done, Sweep.isDone, takesAxis, ownerCommand]

theorem commandSeen_requestedTime (s : State) (code operand : Byte) :
    (commandSeen s code operand).profile.shadow.requestedTime = s.profile.shadow.requestedTime := by
  simp only [Page.requestedTime, Page.low, Page.high]
  rw [commandSeen_word (by decide), commandSeen_word (by decide)]

theorem tcSetCommand_of_bad {s : State} {time : Time} (requested : s.profile.shadow.requestedTime = time)
    (bad : ¬ time.inRange s.timecode.rate.perSecond = true) : tcSetCommand s = (.badTime, s) := by
  simp [tcSetCommand, requested, bad]

theorem tcSetCommand_of_good {s : State} {time : Time} (requested : s.profile.shadow.requestedTime = time)
    (good : time.inRange s.timecode.rate.perSecond = true) :
    tcSetCommand s = (.accepted, { s with timecode := { s.timecode with pendingSet := some time } }.markIf
      s.timecode.pendingSet.isNone .timecodeState) := by
  simp [tcSetCommand, requested, good]

/-- Settles O30: the time of the shadow is tested at the rate in force and held as the pending set. -/
theorem tcSetHoldsAPendingSet : Obligations.TcSetHoldsAPendingSet := by
  intro s operand takes done p time bad
  have run : ∀ r, tcSetCommand (commandSeen s 7 operand) = r → exec (.tcSet operand) s = .next (r.2.reportCommand 7 r.1) := fun r owner => by
    subst owner
    change Host.Outcome.next (s.offerCommand 7 operand) = _
    rw [State.offerCommand_of_takes takes operand (by decide), runCommand_tcSet (s := commandSeen s 7 operand) done]
  have requested : (commandSeen s 7 operand).profile.shadow.requestedTime = time := commandSeen_requestedTime s 7 operand
  have inRange : time.inRange s.timecode.rate.perSecond = true ↔ ¬ bad := by
    rw [Time.inRange_iff]
    change _ ↔ ¬ (23 < time.hours ∨ 59 < time.minutes ∨ 59 < time.seconds ∨ s.timecode.rate.perSecond ≤ time.frames)
    omega
  refine ⟨fun isBad => ?_, fun isGood => ⟨_, run _ (tcSetCommand_of_good requested (inRange.mpr isGood)), ?_, ?_⟩⟩
  · exact ⟨_, run _ (tcSetCommand_of_bad requested fun good => inRange.mp good isBad), refusedWith_reportCommand _ _ _ _⟩
  · rw [State.reportCommand_eq_setReport, State.markIf_eq_setReport]
    rfl
  · have marked := reports_markIf { commandSeen s 7 operand with timecode := { s.timecode with pendingSet := some time } }
      s.timecode.pendingSet.isNone .timecodeState
    have told := (marked.trans (reports_reportCommand _ 7 .accepted)).after (s := s) rfl
    refine told.congr (fun e => Iff.rfl) fun w => ?_
    cases s.timecode.pendingSet <;> simp [or_comm]

end Sys2Proof.Machine
end

section
/-! The readys of writes (R102, R152), the severity and blink expiries (R112, R114, R142), and what a FRAME pulse does (R137, R145, R151). -/

namespace Sys2Proof.Machine

/-! ### The ready of a write (R102) -/

/-- The RAM after a write of the bus: the enabled lanes stored at the address, every other byte as it was. -/
theorem Memory.writeWord_spec {m : Memory} (wf : m.wf = true) (w : MTxn) :
    (m.writeWord w.addr w.data w.lanes).readWord w.addr =
        ofBytes (if w.lanes.high = true then highByte w.data else highByte (m.readWord w.addr))
          (if w.lanes.low = true then lowByte w.data else lowByte (m.readWord w.addr)) ∧
      ∀ k, k ≠ 2 * w.addr.toNat → k ≠ 2 * w.addr.toNat + 1 → (m.writeWord w.addr w.data w.lanes).readByte k = m.readByte k :=
  ⟨Memory.readWord_writeWord_same w.addr w.data w.lanes wf, fun _ low high => Memory.readByte_writeWord_ne m w.addr w.data w.lanes low high⟩

section ready

variable {s : State} {w : MTxn} (busy : s.mport.busy = some w)
include busy

theorem State.completeWrite_eq (kind : w.kind = .controllerWrite ∨ (∃ a, w.kind = .refresh a) ∨ w.kind = .boost ∨ w.kind = .report) :
    s.completeWrite = (s.store w).freePort := by
  obtain kind | ⟨a, kind⟩ | kind | kind := kind <;> simp [State.completeWrite, busy, kind]

theorem State.completeRingWord_of_orphan (kind : w.kind = .ringWord false) : s.completeRingWord = (s.store w).freePort := by
  simp [State.completeRingWord, busy, kind]

theorem State.completeRingWord_of_staged (kind : w.kind = .ringWord true) :
    s.completeRingWord = ((s.store w).freePort).ringWordWritten := by
  simp [State.completeRingWord, busy, kind]

end ready

theorem State.ringWordWritten_of_none {s : State} (empty : s.ring.staged = none) : s.ringWordWritten = s := by
  simp [State.ringWordWritten, empty]

theorem State.ringWordWritten_of_more {s : State} (staged : s.ring.staged ≠ none) (more : s.ring.position ≠ 11) :
    s.ringWordWritten = { s with ring := { s.ring with position := s.ring.position + 1 } } := by
  simp [State.ringWordWritten, staged, more]

theorem State.ringWordWritten_of_last {s : State} (staged : s.ring.staged ≠ none) (last : s.ring.position = 11) :
    s.ringWordWritten = ({ s with ring := { s.ring with position := 12 } } : State).publish := by
  simp [State.ringWordWritten, staged, last]

theorem reports_publish (s : State) : Reports s s.publish [.ringRecord] [.ringProducer] :=
  ((reports_mark _ _).trans (reports_raise _ _)).after rfl

theorem State.publish_eq_setReport (s : State) :
    s.publish = { s with ring := { s.ring with producer := s.nextProducer, staged := none }, report := s.publish.report } :=
  State.raise_eq_setReport _ _

/-- Settles O43: each ready stores its write; that of a staged word counts it, and the twelfth publishes the record. -/
theorem writeReadyReachesTheRam : Obligations.WriteReadyReachesTheRam := by
  intro s w busy wf stored
  have written := Memory.writeWord_spec wf w
  refine ⟨fun kind => ?_, fun kind => ?_, fun kind staged => ⟨fun more => ?_, fun last => ?_⟩⟩
  · refine ⟨_, rfl, ?_⟩
    rw [State.completeWrite_eq busy kind]
    exact ⟨written, rfl⟩
  · refine ⟨_, rfl, ?_⟩
    have freed : s.completeRingWord = (s.store w).freePort := by
      obtain orphan | ⟨current, empty⟩ := kind
      · exact State.completeRingWord_of_orphan busy orphan
      · rw [State.completeRingWord_of_staged busy current, State.ringWordWritten_of_none (by simpa using empty)]
    rw [freed]
    exact ⟨written, rfl⟩
  · refine ⟨_, rfl, ?_⟩
    rw [State.completeRingWord_of_staged busy kind, State.ringWordWritten_of_more (by simpa using staged) (by simpa using more)]
    exact ⟨written, rfl⟩
  · refine ⟨_, rfl, ?_⟩
    rw [State.completeRingWord_of_staged busy kind, State.ringWordWritten_of_last (by simpa using staged) (by simpa using last)]
    refine ⟨?_, (State.publish_eq_setReport _).trans ?_, (reports_publish _).after rfl⟩
    · rw [State.publish_eq_setReport]
      exact written
    · rw [State.publish_eq_setReport]
      rfl

/-! ### The severity and blink expiries (R112, R114, R142) -/

theorem State.setSeverity_eq (s : State) (st : SeverityState) :
    s.setSeverity st = { s with severity := { s.severity with state := st }, report := (s.setSeverity st).report } := rfl

theorem reports_setSeverity (s : State) (st : SeverityState) : Reports s (s.setSeverity st) [] [.severity] := (reports_mark _ _).after rfl

theorem reports_startEasing (s : State) : Reports s s.startEasing [] [.severity] := (reports_setSeverity _ _).after rfl

theorem State.settle_eq (s : State) :
    s.settle = { s with
      severity := { s.severity with
        settleTimer := none
        state := if s.severity.level = 0 then .easing else .rough
        exitHoldTimer := if s.severity.level = 0 then some s.page.exitHoldMs else s.severity.exitHoldTimer }
      report := s.settle.report } := by
  by_cases level : s.severity.level = 0
  · simp only [State.settle, level, if_true]
    rfl
  · simp only [State.settle, level, if_false]
    rfl

theorem reports_settle (s : State) : Reports s s.settle [] [.severity] := by
  unfold State.settle
  simp only []
  split
  · exact (((reports_setSeverity _ _).trans (reports_startEasing _)).after rfl).congr (fun e => Iff.rfl) fun w => by simp
  · exact (reports_setSeverity _ _).after rfl

theorem State.holdBoost_eq (s : State) (v : Word) :
    s.holdBoost v = { s with severity := { s.severity with
      boostHeld := if s.page.boostEnable = true then some v else s.severity.boostHeld } } := by
  unfold State.holdBoost
  split
  · rfl
  · rfl

/-- Settles O19: each expiry that finds its timer run out in the state it belongs to. -/
theorem severityTimersAndBlinkExpire : Obligations.SeverityTimersAndBlinkExpire := by
  refine fun s => ⟨fun due slow => ?_, fun due fast => ?_, fun due boosting => ?_, fun due easing => ?_⟩
  · refine congrArg Host.Outcome.next ?_
    rw [State.toggleLamp, due, slow]
    rfl
  · refine congrArg Host.Outcome.next ?_
    rw [State.toggleLamp, due, fast]
    rfl
  · have expires : s.settleExpiry = s.settle := by simp [State.settleExpiry, due, boosting, Timer.due]
    refine ⟨s.settle, congrArg _ expires, s.settle_eq, reports_settle s⟩
  · refine ⟨s.exitHoldExpiry, rfl, ?_⟩
    have expires : s.exitHoldExpiry = (({ s with severity := { s.severity with exitHoldTimer := none } }.holdBoost
        s.page.boostNormal).setSeverity .calm).raise .severityLeave := by
      simp [State.exitHoldExpiry, due, easing, Timer.due]
    rw [expires]
    refine ⟨?_, (((reports_setSeverity _ _).trans (reports_raise _ _)).after ?_)⟩
    · rw [State.raise_eq_setReport, State.holdBoost_eq]
      rfl
    · rw [State.holdBoost_eq]

end Sys2Proof.Machine
end

section
/-! What the Fault Monitor reports (R140, R141), and what a FRAME pulse does (R137, R145, R147, R151). -/

namespace Sys2Proof.Machine

/-! ### What the Fault Monitor reports -/

theorem State.judgeStat_report (s : State) : s.judgeStat.report = s.report := by simp

theorem reports_judgeHeadline (s : State) :
    Reports s s.judgeHeadline [] (if s.firstActive = s.faults.headline then [] else [.headline]) := by
  unfold State.judgeHeadline
  split
  · exact reports_of_report_eq rfl
  · exact ((reports_mark _ _).trans (reports_of_report_eq (State.judgeStat_report _))).after rfl

theorem reports_reportFlag (s : State) (old new : Bool) :
    Reports s (s.reportFlag old new) (if old = new then [] else [flagEvent new]) (if old = new then [] else [.activeFaults]) := by
  unfold State.reportFlag
  split
  · exact reports_of_report_eq rfl
  · exact (reports_raise _ _).trans (reports_mark _ _)

/-- Whether writing FRAME_LOST's flag changes it. -/
def State.frameLostMoves (s : State) (on : Bool) : Bool := s.profileActive && s.faults.frameLost != on

/-- The write of FRAME_LOST's flag, where it changes, raises its event and marks ACTIVE_FAULTS; the headline may follow. -/
theorem reports_setFrameLost (s : State) (on : Bool) :
    ∃ ws, ws ⊆ [.headline] ∧ Reports s (s.setFrameLost on) (if s.frameLostMoves on then [flagEvent on] else [])
      ((if s.frameLostMoves on then [.activeFaults] else []) ++ ws) := by
  unfold State.setFrameLost
  by_cases moves : s.frameLostMoves on = true
  · have acts : ¬ (!s.profileActive || s.faults.frameLost == on) = true := by simpa [State.frameLostMoves] using moves
    have changes : s.faults.frameLost ≠ on := fun same => acts (by simp [same])
    have flagged := reports_reportFlag { s with faults := { s.faults with frameLost := on } } s.faults.frameLost on
    rw [if_neg changes, if_neg changes] at flagged
    rw [if_neg acts, if_pos moves, if_pos moves]
    refine ⟨_, ?_, (flagged.trans (reports_judgeHeadline _)).after rfl⟩
    split <;> simp
  · have idle : (!s.profileActive || s.faults.frameLost == on) = true := by simpa [State.frameLostMoves, or_iff_not_imp_left] using moves
    rw [if_pos idle, if_neg moves, if_neg moves]
    exact ⟨[], by simp, reports_of_report_eq rfl⟩

/-! ### The frame-lost measure (R137) -/

theorem State.setFrameLost_frameLost (s : State) (on : Bool) :
    (s.setFrameLost on).faults.frameLost = if s.profileActive then on else s.faults.frameLost :=
  congrArg (fun flags => flags.2.2) (s.setFrameLost_deviceFlags on)

/-! ### The timecode (R145, R147) -/

/-- The frames of a day up to a time. -/
def Time.frameCount (t : Time) (rate : Nat) : Nat := ((t.hours * 60 + t.minutes) * 60 + t.seconds) * rate + t.frames

/-- The next time is one frame further in the day, which begins again after its last. -/
theorem Time.frameCount_next {t : Time} {r : FrameRate} (h : t.inRange r.perSecond = true) :
    (t.next r.perSecond).frameCount r.perSecond = (t.frameCount r.perSecond + 1) % (24 * 60 * 60 * r.perSecond) := by
  obtain ⟨hours, minutes, seconds, frames⟩ := (Time.inRange_iff _ _).mp h
  unfold Time.next Time.frameCount
  cases t
  cases r <;> simp only [FrameRate.perSecond] at * <;> split_ifs <;> dsimp only <;> omega

/-- What a pulse makes of the timecode. -/
def Timecode.pulsed (t : Timecode) : Timecode :=
  match t.pendingSet with
  | some p => { t with time := p, valid := true, pendingSet := none }
  | none => if t.valid then { t with time := t.time.next t.rate.perSecond } else t

theorem State.pulseTimecode_timecode (s : State) : s.pulseTimecode.timecode = s.timecode.pulsed := by
  unfold State.pulseTimecode Timecode.pulsed
  cases set : s.timecode.pendingSet with
  | some p => simp
  | none => cases valid : s.timecode.valid <;> simp [valid, set]

/-- The words that a pulse marks. -/
def Timecode.pulseWords (t : Timecode) : List ReportWord :=
  match t.pendingSet with
  | some _ => [.timecode0, .timecode1, .timecodeState]
  | none => if t.valid then [.timecode0, .timecode1] else []

theorem reports_markTime (s : State) : Reports s s.markTime [] [.timecode0, .timecode1] := (reports_mark _ _).trans (reports_mark _ _)

theorem reports_pulseTimecode (s : State) :
    Reports s s.pulseTimecode (if s.timecode.pendingSet.isSome then [.tcApplied] else []) s.timecode.pulseWords := by
  unfold State.pulseTimecode Timecode.pulseWords
  cases s.timecode.pendingSet with
  | some p => exact (((reports_markTime _).trans (reports_mark _ _)).trans (reports_raise _ _)).after rfl
  | none =>
    cases s.timecode.valid with
    | true => exact (reports_markTime _).after rfl
    | false => exact reports_of_report_eq rfl

theorem Timecode.pulsed_frame (t : Timecode) :
    t.pulsed.pendingSet = none ∧ t.pulsed.rate = t.rate ∧ t.pulsed.frameLostTimer = t.frameLostTimer ∧ t.pulsed.frameLost = t.frameLost := by
  unfold Timecode.pulsed
  cases set : t.pendingSet with
  | some p => simp
  | none => cases t.valid <;> simp [set]

/-! ### The Ring Writer at a pulse (R151) -/

/-- The ring cannot take a record: its staging buffer holds one, or the next slot is the consumer's. -/
def State.ringFull (s : State) : Bool := s.ring.staged.isSome || s.nextProducer == s.ring.consumer

theorem State.ringFull_iff (s : State) :
    s.ringFull = true ↔ s.ring.staged ≠ none ∨ (s.ring.producer + 1) % s.page.ringLength = s.ring.consumer := by
  simp [State.ringFull, State.nextProducer, State.ringN, Option.isSome_iff_ne_none]

theorem State.captureRecord_of_disabled {s : State} (disabled : s.ringEnabled = false) : s.captureRecord = s := by
  simp [State.captureRecord, disabled]

theorem State.captureRecord_of_full {s : State} (enabled : s.ringEnabled = true) (full : s.ringFull = true) :
    s.captureRecord = s.raise .ringOverrun := by
  unfold State.captureRecord
  rw [enabled, if_neg (by decide)]
  exact if_pos full

theorem State.captureRecord_of_room {s : State} (enabled : s.ringEnabled = true) (room : s.ringFull = false) :
    s.captureRecord = { s with
      ring := { s.ring with staged := some s.recordWords, slot := s.ring.producer, granted := 0, position := 0 }
      links := ⟨{ s.links.a with satSeen := false }, { s.links.b with satSeen := false }⟩ } := by
  unfold State.captureRecord
  rw [enabled, if_neg (by decide), if_neg (by rw [← State.ringFull, room]; decide)]
  rfl

theorem reports_captureRecord (s : State) :
    Reports s s.captureRecord (if s.ringEnabled && s.ringFull then [.ringOverrun] else []) [] := by
  cases enabled : s.ringEnabled with
  | false =>
    rw [State.captureRecord_of_disabled enabled]
    exact reports_of_report_eq rfl
  | true =>
    cases full : s.ringFull with
    | true =>
      rw [State.captureRecord_of_full enabled full]
      exact reports_raise _ _
    | false =>
      rw [State.captureRecord_of_room enabled full]
      exact reports_of_report_eq rfl

/-! ### The pulse -/

/-- The state in which a FRAME pulse finds the Ring Writer. -/
def State.pulsed (s : State) : State := s.pulseFrameLost.pulseTimecode

theorem State.framePulse_eq (s : State) : s.framePulse = s.pulsed.captureRecord := rfl

/-- What a pulse leaves as it was when it comes to the Ring Writer. -/
@[simp] theorem State.pulsed_frame (s : State) :
    s.pulsed.ring = s.ring ∧ s.pulsed.page = s.page ∧ s.pulsed.profileActive = s.profileActive ∧ s.pulsed.links = s.links ∧
    s.pulsed.selected = s.selected ∧ s.pulsed.severity = s.severity ∧ s.pulsed.axes = s.axes ∧ s.pulsed.burst = s.burst := by
  simp [State.pulsed]

@[simp] theorem State.pulsed_ringFull (s : State) : s.pulsed.ringFull = s.ringFull := by
  simp [State.ringFull, State.nextProducer, State.ringN]

@[simp] theorem State.pulsed_ringEnabled (s : State) : s.pulsed.ringEnabled = s.ringEnabled := by
  simp [State.ringEnabled, State.ringN] <;> rfl

theorem State.pulseFrameLost_of_held {s : State} (held : s.resetHeld = true) : s.pulseFrameLost = s := by
  simp [State.pulseFrameLost, held]

theorem State.pulseFrameLost_of_awake {s : State} (awake : s.resetHeld = false) :
    s.pulseFrameLost = { s with timecode := { s.timecode with frameLostTimer := some 100, frameLost := false } }.setFrameLost false := by
  simp [State.pulseFrameLost, awake]

/-- What the frame-lost measure leaves of the timecode. -/
theorem State.pulseFrameLost_timecode (s : State) :
    s.pulseFrameLost.timecode.pendingSet = s.timecode.pendingSet ∧ s.pulseFrameLost.timecode.rate = s.timecode.rate ∧
      s.pulseFrameLost.timecode.time = s.timecode.time ∧ s.pulseFrameLost.timecode.valid = s.timecode.valid := by
  cases held : s.resetHeld with
  | true => simp [State.pulseFrameLost_of_held held]
  | false => simp [State.pulseFrameLost_of_awake held]

/-- The events that a pulse raises before the Ring Writer's: FRAME_LOST's end, TC_APPLIED; and words of the Fault Monitor and the timecode. -/
theorem reports_pulseFrameLost (s : State) :
    ∃ es ws, es ⊆ [.faultCleared] ∧ Reports s s.pulseFrameLost es ws ∧
      (s.resetHeld = false → s.profileActive = true → s.faults.frameLost = true → .faultCleared ∈ es) := by
  cases held : s.resetHeld with
  | true =>
    rw [State.pulseFrameLost_of_held held]
    exact ⟨[], [], by simp, reports_of_report_eq rfl, by simp⟩
  | false =>
    obtain ⟨ws, -, told⟩ := reports_setFrameLost
      { s with timecode := { s.timecode with frameLostTimer := some 100, frameLost := false } } false
    rw [State.pulseFrameLost_of_awake held]
    refine ⟨_, _, ?_, told.after rfl, fun _ active lost => ?_⟩
    · split <;> simp [flagEvent]
    · have moves : State.frameLostMoves
          { s with timecode := { s.timecode with frameLostTimer := some 100, frameLost := false } } false = true := by
        change (s.profileActive && s.faults.frameLost != false) = true
        rw [active, lost]
        rfl
      simp [moves, flagEvent]

/-- What a pulse reports before the Ring Writer. -/
theorem reports_pulsed (s : State) :
    ∃ es ws, es ⊆ [.faultCleared, .tcApplied] ∧ Reports s s.pulsed es ws ∧
      (s.resetHeld = false → s.profileActive = true → s.faults.frameLost = true → .faultCleared ∈ es) ∧
      (s.timecode.pendingSet ≠ none → .tcApplied ∈ es) ∧ s.timecode.pulseWords ⊆ ws := by
  obtain ⟨es, ws, events, told, cleared⟩ := reports_pulseFrameLost s
  obtain ⟨set, rate, time, valid⟩ := s.pulseFrameLost_timecode
  have pulse := reports_pulseTimecode s.pulseFrameLost
  have words : s.pulseFrameLost.timecode.pulseWords = s.timecode.pulseWords := by simp [Timecode.pulseWords, set, valid]
  rw [set, words] at pulse
  refine ⟨_, _, ?_, told.trans pulse, fun awake active lost => ?_, fun pending => ?_, by simp⟩
  · refine List.append_subset.mpr ⟨fun e mem => by have := events mem; simp_all, ?_⟩
    split <;> simp
  · simp [cleared awake active lost]
  · obtain ⟨p, pending⟩ := Option.ne_none_iff_exists'.mp pending
    simp [pending]

/-- Settles O20: the expiry and the pulse write the condition, and FRAME_LOST with it while the profile is ACTIVE. -/
theorem frameLostExpiryAndRecovery : Obligations.FrameLostExpiryAndRecovery := by
  refine fun s => ⟨fun due => ?_, fun awake => ?_⟩
  · have expires : s.frameLostExpiry =
        { s with timecode := { s.timecode with frameLostTimer := none, frameLost := true } }.setFrameLost true := by
      simp [State.frameLostExpiry, due, Timer.due]
    have device := State.setFrameLost_deviceFlags { s with timecode := { s.timecode with frameLostTimer := none, frameLost := true } } true
    rw [← expires] at device
    simp only [State.deviceFlags, Prod.mk.injEq] at device
    obtain ⟨lost, fallback, frameLost⟩ := device
    obtain ⟨ws, -, told⟩ := reports_setFrameLost { s with timecode := { s.timecode with frameLostTimer := none, frameLost := true } } true
    rw [← expires] at told
    refine ⟨s.frameLostExpiry, rfl, ?_, lost, fallback, ?_, fun active clear => ?_⟩
    · apply State.eq_of_fields <;> simp [expires]
    · rw [frameLost]
      change (if s.profileActive = true then true else s.faults.frameLost) = _
      cases s.profileActive <;> simp
    · have moves : State.frameLostMoves
          { s with timecode := { s.timecode with frameLostTimer := none, frameLost := true } } true = true := by
        change (s.profileActive && s.faults.frameLost != true) = true
        rw [active, clear]
        rfl
      rw [if_pos moves, if_pos moves] at told
      exact ⟨(told.after rfl).isPending (by simp [flagEvent]), (told.after rfl).isDirty (by simp)⟩
  · obtain ⟨-, -, timer, condition⟩ := s.pulseFrameLost.timecode.pulsed_frame
    have timecode : s.framePulse.timecode = s.pulseFrameLost.timecode.pulsed := by
      simp [State.framePulse, State.pulseTimecode_timecode]
    refine ⟨s.framePulse, rfl, ?_, ?_, fun active => ⟨?_, fun lost => ?_⟩⟩
    · rw [timecode, timer, State.pulseFrameLost_of_awake awake]
      simp
    · rw [timecode, condition, State.pulseFrameLost_of_awake awake]
      simp
    · have faults : s.framePulse.faults = s.pulseFrameLost.faults := by simp [State.framePulse]
      rw [faults, State.pulseFrameLost_of_awake awake, State.setFrameLost_frameLost]
      exact if_pos active
    · obtain ⟨es, ws, -, told, cleared, -⟩ := reports_pulsed s
      exact (told.trans (reports_captureRecord _)).isPending (by simp [cleared awake active lost])

/-- Settles O21: the pulse takes a pending set or advances a VALID timecode, and touches no other part but those that report it. -/
theorem framePulseMovesTheTimecode : Obligations.FramePulseMovesTheTimecode := by
  intro s ⟨inRange, _⟩ rate count
  obtain ⟨set, sameRate, time, valid⟩ := s.pulseFrameLost_timecode
  obtain ⟨noSet, kept, -, -⟩ := s.pulseFrameLost.timecode.pulsed_frame
  have timecode : s.framePulse.timecode = s.pulseFrameLost.timecode.pulsed := by
    simp [State.framePulse, State.pulseTimecode_timecode]
  obtain ⟨es, ws, -, told, -, applied, marked⟩ := reports_pulsed s
  have told := told.trans (reports_captureRecord _)
  refine ⟨s.framePulse, rfl, ?_, ?_, fun none => ⟨?_, fun isValid => ?_, fun invalid => ?_⟩, fun p pending => ?_, ?_⟩
  · rw [timecode, noSet]
  · rw [timecode, kept, sameRate]
  · rw [timecode, Timecode.pulsed, set, none, valid]
    cases isValid : s.timecode.valid <;> simp [valid, isValid]
  · have pulsed : s.framePulse.timecode.time = s.timecode.time.next s.timecode.rate.perSecond := by
      rw [timecode, Timecode.pulsed, set, none, valid, isValid, time, sameRate]
      rfl
    have words : s.timecode.pulseWords = [.timecode0, .timecode1] := by simp [Timecode.pulseWords, none, isValid]
    rw [words] at marked
    rw [pulsed]
    exact ⟨Time.frameCount_next (inRange isValid), Time.next_inRange (inRange isValid) (FrameRate.perSecond_pos _),
      told.isDirty (by simp [marked (List.mem_cons_self ..)]),
      told.isDirty (List.mem_append_left _ (marked (List.mem_cons_of_mem _ (List.mem_cons_self ..))))⟩
  · rw [timecode, Timecode.pulsed, set, none, valid, invalid]
    exact time
  · have pulsed : s.framePulse.timecode.time = p ∧ s.framePulse.timecode.valid = true := by
      rw [timecode, Timecode.pulsed, set, pending]
      exact ⟨rfl, rfl⟩
    have words : s.timecode.pulseWords = [.timecode0, .timecode1, .timecodeState] := by simp [Timecode.pulseWords, pending]
    rw [words] at marked
    have isMarked : ∀ w, w ∈ [ReportWord.timecode0, .timecode1, .timecodeState] → s.framePulse.isDirty w = true := fun w mem =>
      told.isDirty (List.mem_append_left _ (marked mem))
    exact ⟨pulsed.1, pulsed.2, told.isPending (by simp [applied (by simp [pending])]), isMarked _ (by simp), isMarked _ (by simp),
      isMarked _ (by simp)⟩
  · apply State.eq_of_fields <;> simp

end Sys2Proof.Machine
end

section
/-! The record that a FRAME pulse stages (R151, 12.4). -/

namespace Sys2Proof.Machine

/-! ### Fields of a word made of a number -/

theorem getLsbD_ofNat_word (n i : Nat) (h : i < 16) : (BitVec.ofNat 16 n).getLsbD i = decide (n / 2 ^ i % 2 = 1) := by
  rw [BitVec.getLsbD_ofNat, decide_eq_true h, Bool.true_and, Nat.testBit_eq_decide_div_mod_eq]

theorem extract_ofNat_word_toNat (n i k : Nat) (h : i + k ≤ 16) :
    ((BitVec.ofNat 16 n).extractLsb' i k).toNat = n / 2 ^ i % 2 ^ k := by
  have whole : 2 ^ 16 = 2 ^ i * 2 ^ (16 - i) := by rw [← Nat.pow_add, Nat.add_sub_cancel' (by omega)]
  rw [BitVec.extractLsb'_toNat, BitVec.toNat_ofNat, Nat.shiftRight_eq_div_pow, whole, Nat.mod_mul_right_div_self,
    Nat.mod_mod_of_dvd _ (Nat.pow_dvd_pow 2 (by omega))]

theorem selectedCode_lt (src : Option Source) : selectedCode src < 3 := by
  cases src with
  | none => decide
  | some src => cases src <;> decide

theorem SourceState.code_lt (st : SourceState) : st.code < 3 := by cases st <;> decide

theorem AxisState.code_lt (st : AxisState) : st.code < 4 := by cases st <;> decide

theorem SeverityState.code_lt (st : SeverityState) : st.code < 4 := by cases st <;> decide

/-- Word 2 of a record by its fields. -/
theorem State.recordWord2_fields (s : State) :
    s.recordWord2.getLsbD 15 = s.timecode.valid ∧ (s.recordWord2.extractLsb' 0 2).toNat = selectedCode s.selected ∧
      (s.recordWord2.extractLsb' 2 2).toNat = s.severity.state.code ∧ s.recordWord2.getLsbD 4 = (s.link .a).satSeen ∧
      s.recordWord2.getLsbD 5 = (s.link .b).satSeen ∧ s.recordWord2.extractLsb' 6 9 = 0 := by
  have selected := selectedCode_lt s.selected
  have severity := s.severity.state.code_lt
  have a : (s.link .a).satSeen = s.links.a.satSeen := rfl
  have b : (s.link .b).satSeen = s.links.b.satSeen := rfl
  have zero : s.recordWord2.extractLsb' 6 9 = 0 ↔ (s.recordWord2.extractLsb' 6 9).toNat = 0 := by
    rw [← BitVec.toNat_inj]
    rfl
  rw [zero, a, b]
  unfold State.recordWord2
  rw [getLsbD_ofNat_word _ _ (by decide), getLsbD_ofNat_word _ _ (by decide), getLsbD_ofNat_word _ _ (by decide),
    extract_ofNat_word_toNat _ _ _ (by decide), extract_ofNat_word_toNat _ _ _ (by decide), extract_ofNat_word_toNat _ _ _ (by decide)]
  cases s.timecode.valid <;> cases s.links.a.satSeen <;> cases s.links.b.satSeen <;> simp [bitAt] <;> omega

/-- Word 3 of a record by its fields. -/
theorem State.recordWord3_fields (s : State) :
    (∀ a : AxisId, (s.recordWord3.extractLsb' (2 * a.val) 2).toNat = (s.axis a).state.code) ∧
      s.recordWord3.getLsbD 8 = decide (s.burst.state = .running) ∧
      (s.recordWord3.extractLsb' 9 2).toNat = (if s.burst.state = .running then s.burst.axis.val else 0) ∧
      s.recordWord3.extractLsb' 11 5 = 0 := by
  have code : ∀ a, (s.axis a).state.code < 4 := fun a => (s.axis a).state.code_lt
  have code0 := code 0
  have code1 := code 1
  have code2 := code 2
  have code3 := code 3
  have axis := s.burst.axis.isLt
  have zero : s.recordWord3.extractLsb' 11 5 = 0 ↔ (s.recordWord3.extractLsb' 11 5).toNat = 0 := by
    rw [← BitVec.toNat_inj]
    rfl
  rw [zero]
  unfold State.recordWord3
  refine ⟨fun a => ?_, ?_, ?_, ?_⟩
  · rw [extract_ofNat_word_toNat _ _ _ (by omega)]
    fin_cases a <;> simp <;> split <;> omega
  · rw [getLsbD_ofNat_word _ _ (by decide)]
    split <;> simp only [*, decide_eq_decide, iff_true, iff_false] <;> omega
  · rw [extract_ofNat_word_toNat _ _ _ (by decide)]
    split <;> omega
  · rw [extract_ofNat_word_toNat _ _ _ (by decide)]
    split <;> omega

/-- Words 4 to 11 of a record: the axes' outputs and corrections. -/
theorem State.recordWords_axis (s : State) (a : AxisId) :
    s.recordWords[4 + 2 * a.val] = BitVec.ofInt 16 (s.axis a).output ∧
      s.recordWords[5 + 2 * a.val] = BitVec.ofInt 16 (s.axis a).correction := by
  fin_cases a <;> exact ⟨rfl, rfl⟩

/-- Settles O22: the Ring Writer is as it was when the pulse comes to it, and stages the record with the timecode of the pulse. -/
theorem framePulseCapturesTheRecord : Obligations.FramePulseCapturesTheRecord := by
  intro s
  obtain ⟨es, ws, events, told, -⟩ := reports_pulsed s
  have told := told.trans (reports_captureRecord _)
  simp only [State.pulsed_ringEnabled, State.pulsed_ringFull] at told
  have notOverrun : Event.ringOverrun ∉ es := fun mem => by simpa using events mem
  refine ⟨s.framePulse, rfl, fun disabled => ?_, fun enabled full => ?_, fun enabled empty room => ?_⟩
  · have same := State.captureRecord_of_disabled (s := s.pulsed) (by simpa using disabled)
    refine ⟨?_, ?_, told.isPending_of_notMem (by simp [disabled, notOverrun])⟩
    · rw [State.framePulse_eq, same]
      simp
    · rw [State.framePulse_eq, same]
      simp
  · have full := s.ringFull_iff.mpr full
    have overrun := State.captureRecord_of_full (s := s.pulsed) (by simpa using enabled) (by simpa using full)
    refine ⟨?_, ?_, told.isPending (by simp [enabled, full])⟩
    · rw [State.framePulse_eq, overrun]
      simp
    · rw [State.framePulse_eq, overrun]
      simp
  · have hasRoom : s.ringFull = false := by
      rw [← Bool.not_eq_true, s.ringFull_iff]
      simp [empty, room]
    have captured := State.captureRecord_of_room (s := s.pulsed) (by simpa using enabled) (by simpa using hasRoom)
    obtain ⟨ring, page, -, links, selected, severity, axes, burst⟩ := s.pulsed_frame
    have axis := State.axis_congr axes
    obtain ⟨valid, code, severityCode, a, b, zero2⟩ := s.pulsed.recordWord2_fields
    obtain ⟨states, running, burstAxis, zero3⟩ := s.pulsed.recordWord3_fields
    have axisWords := s.pulsed.recordWords_axis
    simp only [State.link_congr links, selected, severity, burst, axis] at a b code severityCode states running burstAxis axisWords
    rw [State.framePulse_eq]
    refine ⟨fun src => ?_, told.isPending_of_notMem (by simp [hasRoom, notOverrun]), s.pulsed.recordWords, ?_, ?_⟩
    · rw [captured]
      cases src <;> simp [State.link, PerSource.get]
    · rw [captured]
      simp
    · rw [captured]
      exact ⟨rfl, rfl, valid, code, severityCode, a, b, states, running, burstAxis, zero2, zero3, axisWords⟩

end Sys2Proof.Machine
end

section
/-! The report page as chapter 12 lays it out (R166). -/

namespace Sys2Proof.Machine

/-! ### Bits and bytes of a report word -/

theorem bitAt_eq (i : Nat) (b : Bool) : bitAt i b = 2 ^ i * b.toNat := by cases b <;> simp [bitAt]

theorem getLsbD_ofNat_of_field {n i : Nat} {b : Bool} (h : i < 16) (field : n / 2 ^ i % 2 = b.toNat) :
    (BitVec.ofNat 16 n).getLsbD i = b := by
  rw [getLsbD_ofNat_word n i h, field]
  cases b <;> rfl

theorem ofNat_word_toNat {n : Nat} (h : n < 65536) : (BitVec.ofNat 16 n).toNat = n := by
  rw [BitVec.toNat_ofNat]
  exact Nat.mod_eq_of_lt h

theorem byte_ofNat_toNat (n : Nat) : (BitVec.ofNat 8 n : Byte).toNat = n % 256 := BitVec.toNat_ofNat ..

theorem ofBytes_high (x y : Byte) : (ofBytes x y).toNat / 256 = x.toNat := by
  have := y.isLt
  rw [ofBytes_toNat]
  omega

theorem ofBytes_low (x y : Byte) : (ofBytes x y).toNat % 256 = y.toNat := by
  have := y.isLt
  rw [ofBytes_toNat]
  omega

/-! ### AXIS_STATUS and ACTIVE_FAULTS -/

/-- The bits of AXIS_STATUS above the state (12.2). -/
def Axis.statusBits (ax : Axis) : List (Nat × Bool) :=
  [(2, ax.causes.command), (3, ax.causes.sourceLost), (4, ax.causes.sourceFallback), (5, ax.causes.controllerSilent),
    (6, ax.causes.limitDwell), (7, ax.causes.refreshLate), (8, ax.rate), (9, ax.limit), (10, ax.silentActive), (11, ax.limitDwellActive),
    (12, ax.lateActive)]

theorem Axis.statusWord_fields (ax : Axis) :
    ax.statusWord < 8192 ∧ ax.statusWord % 4 = ax.state.code ∧
      ∀ i b, (i, b) ∈ ax.statusBits → i < 16 ∧ ax.statusWord / 2 ^ i % 2 = b.toNat := by
  have code := ax.state.code_lt
  have b2 := ax.causes.command.toNat_le
  have b3 := ax.causes.sourceLost.toNat_le
  have b4 := ax.causes.sourceFallback.toNat_le
  have b5 := ax.causes.controllerSilent.toNat_le
  have b6 := ax.causes.limitDwell.toNat_le
  have b7 := ax.causes.refreshLate.toNat_le
  have b8 := ax.rate.toNat_le
  have b9 := ax.limit.toNat_le
  have b10 := ax.silentActive.toNat_le
  have b11 := ax.limitDwellActive.toNat_le
  have b12 := ax.lateActive.toNat_le
  have word : ax.statusWord = ax.state.code + 4 * ax.causes.command.toNat + 8 * ax.causes.sourceLost.toNat
      + 16 * ax.causes.sourceFallback.toNat + 32 * ax.causes.controllerSilent.toNat + 64 * ax.causes.limitDwell.toNat
      + 128 * ax.causes.refreshLate.toNat + 256 * ax.rate.toNat + 512 * ax.limit.toNat + 1024 * ax.silentActive.toNat
      + 2048 * ax.limitDwellActive.toNat + 4096 * ax.lateActive.toNat := by
    simp only [Axis.statusWord, bitAt_eq]
    rfl
  refine ⟨by omega, by omega, fun i b listed => ?_⟩
  simp only [Axis.statusBits, List.mem_cons, Prod.mk.injEq, List.not_mem_nil, or_false] at listed
  obtain ⟨rfl, rfl⟩ | ⟨rfl, rfl⟩ | ⟨rfl, rfl⟩ | ⟨rfl, rfl⟩ | ⟨rfl, rfl⟩ | ⟨rfl, rfl⟩ | ⟨rfl, rfl⟩ | ⟨rfl, rfl⟩ | ⟨rfl, rfl⟩ | ⟨rfl, rfl⟩ |
    ⟨rfl, rfl⟩ := listed <;> exact ⟨by decide, by omega⟩

theorem State.activeFaultsWord_fields (s : State) :
    s.activeFaultsWord < 64 ∧ ∀ c : FaultClass, s.activeFaultsWord / 2 ^ (c.number - 1) % 2 = (s.classActive c).toNat := by
  have b0 := (s.classActive .sourceLost).toNat_le
  have b1 := (s.classActive .sourceFallback).toNat_le
  have b2 := (s.classActive .controllerSilent).toNat_le
  have b3 := (s.classActive .limitDwell).toNat_le
  have b4 := (s.classActive .refreshLate).toNat_le
  have b5 := (s.classActive .frameLost).toNat_le
  have word : s.activeFaultsWord = (s.classActive .sourceLost).toNat + 2 * (s.classActive .sourceFallback).toNat
      + 4 * (s.classActive .controllerSilent).toNat + 8 * (s.classActive .limitDwell).toNat + 16 * (s.classActive .refreshLate).toNat
      + 32 * (s.classActive .frameLost).toNat := by
    simp only [State.activeFaultsWord, FaultClass.all, List.map_cons, List.map_nil, List.sum_cons, List.sum_nil, bitAt_eq, FaultClass.number]
    omega
  refine ⟨by omega, fun c => ?_⟩
  cases c <;> simp only [FaultClass.number] <;> omega

/-! ### The layout -/

/-- Every report word stands at its place with its content. -/
theorem reportLayout (s : State) (w : ReportWord) : ReportLayout s w w.offset.val (s.reportWord w) := by
  cases w with
  | signature => exact ⟨rfl, rfl⟩
  | revision => exact ⟨rfl, rfl⟩
  | eventPending =>
    refine ⟨rfl, by simp [State.reportWord], fun e i listed => ?_⟩
    have at_bit : i = e.bit := by
      simp only [List.mem_cons, Prod.mk.injEq, List.not_mem_nil, or_false] at listed
      cases e <;> simpa [Event.bit] using listed
    have below := e.bit_lt
    subst at_bit
    simp only [State.reportWord, State.isPending, BitVec.getLsbD_setWidth]
    simp
    omega
  | commandResult =>
    refine ⟨rfl, ofBytes_high _ _, ?_⟩
    rw [State.reportWord, ofBytes_low]
    cases s.profile.cmdResult <;> decide
  | applyResult =>
    refine ⟨rfl, ofBytes_low _ _, ?_⟩
    rw [State.reportWord, ofBytes_high]
    cases s.profile.applyResult <;> decide
  | profileState =>
    have active := s.profileActive.toNat_le
    have done := s.profile.sweep.isDone.toNat_le
    have isActive : s.profileActive = true ↔ s.profile.active ≠ none := by simp [State.profileActive, Option.isSome_iff_ne_none]
    change _ ∧ _ ∧ (_ ↔ s.profile.active ≠ none) ∧ (_ ↔ s.profile.sweep = .done)
    rw [← isActive, ← Sweep.isDone_iff]
    simp only [State.reportWord, bitAt_eq]
    refine ⟨rfl, ?_, ?_, ?_⟩
    · rw [ofNat_word_toNat (by omega)]
      omega
    · rw [getLsbD_ofNat_of_field (b := s.profileActive) (by decide) (by omega)]
    · rw [getLsbD_ofNat_of_field (b := s.profile.sweep.isDone) (by decide) (by omega)]
  | sourceState =>
    have selected := selectedCode_lt s.selected
    have a := s.links.a.state.code_lt
    have b := s.links.b.state.code_lt
    have word : (s.reportWord .sourceState).toNat = s.links.a.state.code + 4 * s.links.b.state.code + 16 * selectedCode s.selected :=
      ofNat_word_toNat (by unfold State.sourceStateWord; omega)
    have field0 : (s.reportWord .sourceState).toNat % 4 = (s.link .a).state.code := by
      rw [word]
      change _ = s.links.a.state.code
      omega
    have field2 : (s.reportWord .sourceState).toNat / 4 % 4 = (s.link .b).state.code := by
      rw [word]
      change _ = s.links.b.state.code
      omega
    have field4 : (s.reportWord .sourceState).toNat / 16 = selectedCode s.selected := by
      rw [word]
      omega
    refine ⟨rfl, by omega, ?_, ?_, ?_⟩
    · rw [field4]
      cases s.selected with
      | none => decide
      | some src => cases src <;> decide
    · rw [field0]
      cases (s.link .a).state <;> decide
    · rw [field2]
      cases (s.link .b).state <;> decide
  | severity =>
    refine ⟨rfl, ?_, ?_⟩
    · rw [State.reportWord, ofBytes_low, byte_ofNat_toNat]
    · rw [State.reportWord, ofBytes_high]
      cases s.severity.state <;> decide
  | activeFaults =>
    obtain ⟨small, bits⟩ := s.activeFaultsWord_fields
    refine ⟨rfl, ?_, fun c i listed => ?_⟩
    · rw [State.reportWord, ofNat_word_toNat (by omega)]
      exact small
    · have place : i = c.number - 1 := by
        simp only [List.mem_cons, Prod.mk.injEq, List.not_mem_nil, or_false] at listed
        cases c <;> simpa [FaultClass.number] using listed
      subst place
      exact getLsbD_ofNat_of_field (by cases c <;> decide) (bits c)
  | headline =>
    refine ⟨rfl, ?_⟩
    simp only [State.reportWord]
    cases s.faults.headline with
    | none => decide
    | some c => cases c <;> decide
  | zeroResult =>
    refine ⟨rfl, ?_⟩
    simp only [State.reportWord]
    cases s.zeroResult with
    | none => rfl
    | running src | done src | moving src | source src => cases src <;> rfl
  | exciteResult =>
    refine ⟨rfl, ?_⟩
    simp only [State.reportWord]
    cases s.exciteResult with
    | none => rfl
    | running a | done a | aborted a => exact ofNat_word_toNat (by simp only [ExciteResult.code]; omega)
  | timecode0 => exact ⟨rfl, (ofBytes_high _ _).trans (byte_ofNat_toNat _), (ofBytes_low _ _).trans (byte_ofNat_toNat _)⟩
  | timecode1 => exact ⟨rfl, (ofBytes_high _ _).trans (byte_ofNat_toNat _), (ofBytes_low _ _).trans (byte_ofNat_toNat _)⟩
  | timecodeState =>
    have valid := s.timecode.valid.toNat_le
    have pending := s.timecode.pendingSet.isSome.toNat_le
    change _ ∧ _ ∧ _ ∧ (_ ↔ s.timecode.pendingSet ≠ none)
    rw [← Option.isSome_iff_ne_none]
    simp only [State.reportWord, bitAt_eq]
    refine ⟨rfl, ?_, ?_, ?_⟩
    · rw [ofNat_word_toNat (by omega)]
      omega
    · exact getLsbD_ofNat_of_field (by decide) (by omega)
    · rw [getLsbD_ofNat_of_field (b := s.timecode.pendingSet.isSome) (by decide) (by omega)]
  | ringProducer => exact ⟨rfl, BitVec.toNat_ofNat ..⟩
  | ringConsumer => exact ⟨rfl, BitVec.toNat_ofNat ..⟩
  | biasX src | biasY src | biasZ src =>
    refine ⟨?_, rfl⟩
    cases src <;> decide
  | axisStatus a =>
    obtain ⟨small, state, bits⟩ := (s.axis a).statusWord_fields
    refine ⟨rfl, ?_, ?_, fun i b listed => ?_⟩
    · rw [State.reportWord, ofNat_word_toNat (by omega)]
      exact small
    · rw [State.reportWord, ofNat_word_toNat (by omega), state]
      cases (s.axis a).state <;> decide
    · obtain ⟨place, field⟩ := bits i b listed
      exact getLsbD_ofNat_of_field place field
  | intent a => exact ⟨rfl, rfl⟩
  | output a => exact ⟨rfl, rfl⟩
  | correction a => exact ⟨rfl, rfl⟩

end Sys2Proof.Machine
end

section
/-! Reports known up to the words they may mark, and the grants of the M-port (R103 to R106). -/

namespace Sys2Proof.Machine

/-! ### Reports up to words that may be marked -/

/-- From `s` to `t` exactly the events `es` are raised; the words `must` are marked, and none but them and `may`, besides EVENT_PENDING. -/
def Tells (s t : State) (es : List Event) (must may : List ReportWord) : Prop :=
  ∃ ws, must ⊆ ws ∧ ws ⊆ must ++ may ∧ Reports s t es ws

theorem Reports.tells {s t : State} {es : List Event} {ws : List ReportWord} (h : Reports s t es ws) : Tells s t es ws [] :=
  ⟨ws, fun _ mem => mem, fun _ mem => by simpa using mem, h⟩

theorem Tells.trans {s t u : State} {es es' : List Event} {must must' may may' : List ReportWord} (h : Tells s t es must may)
    (h' : Tells t u es' must' may') : Tells s u (es ++ es') (must ++ must') (may ++ may') := by
  obtain ⟨ws, musts, within, told⟩ := h
  obtain ⟨ws', musts', within', told'⟩ := h'
  refine ⟨ws ++ ws', List.append_subset.mpr ⟨fun w mem => by simp [musts mem], fun w mem => by simp [musts' mem]⟩,
    List.append_subset.mpr ⟨fun w mem => ?_, fun w mem => ?_⟩, told.trans told'⟩
  · have := within mem
    simp only [List.mem_append] at this ⊢
    tauto
  · have := within' mem
    simp only [List.mem_append] at this ⊢
    tauto

/-- The lists count as sets; fewer words may be said to be marked for certain, and more to be marked at most. -/
theorem Tells.weaken {s t : State} {es es' : List Event} {must must' may may' : List ReportWord} (h : Tells s t es must may)
    (events : ∀ e, e ∈ es' ↔ e ∈ es) (musts : must' ⊆ must) (within : must ++ may ⊆ must' ++ may') : Tells s t es' must' may' := by
  obtain ⟨ws, musts', within', told⟩ := h
  exact ⟨ws, fun w mem => musts' (musts mem), fun w mem => within (within' mem), told.congr events fun w => Iff.rfl⟩

theorem Tells.after {s t u : State} {es : List Event} {must may : List ReportWord} (h : Tells t u es must may)
    (same : t.report = s.report) : Tells s u es must may := by
  obtain ⟨ws, musts, within, told⟩ := h
  exact ⟨ws, musts, within, told.after same⟩

theorem Tells.isPending {s t : State} {es : List Event} {must may : List ReportWord} (h : Tells s t es must may) {e : Event}
    (mem : e ∈ es) : t.isPending e = true := by
  obtain ⟨ws, -, -, told⟩ := h
  exact told.isPending mem

theorem Tells.isPending_of_notMem {s t : State} {es : List Event} {must may : List ReportWord} (h : Tells s t es must may) {e : Event}
    (out : e ∉ es) : t.isPending e = s.isPending e := by
  obtain ⟨ws, -, -, told⟩ := h
  exact told.isPending_of_notMem out

theorem Tells.raises {s t : State} {es : List Event} {must may : List ReportWord} (h : Tells s t es must may) : Raises s t es := by
  obtain ⟨ws, -, -, told⟩ := h
  exact told.1

theorem Tells.isDirty {s t : State} {es : List Event} {must may : List ReportWord} (h : Tells s t es must may) {w : ReportWord}
    (mem : w ∈ must) : t.isDirty w = true := by
  obtain ⟨ws, musts, -, told⟩ := h
  exact told.isDirty (musts mem)

theorem Tells.isDirty_of_notMem {s t : State} {es : List Event} {must may : List ReportWord} (h : Tells s t es must may) {w : ReportWord}
    (out : w ∉ must ++ may) (other : w ≠ .eventPending) : t.isDirty w = s.isDirty w := by
  obtain ⟨ws, -, within, told⟩ := h
  exact told.isDirty_of_notMem (fun mem => out (within mem)) other

theorem Tells.marksWithin {s t : State} {es : List Event} {must may : List ReportWord} (h : Tells s t es must may)
    (pendingWord : .eventPending ∈ must ++ may) : MarksWithin s t must may := by
  obtain ⟨ws, musts, within, told⟩ := h
  exact told.marksWithin musts within pendingWord

/-! ### The flag of an axis class -/

/-- Whether writing the flag of an axis class changes it. -/
def State.flagMoves (s : State) (c : AxisClass) (a : AxisId) (on : Bool) : Bool := s.profileActive && (s.axis a).classActive c != on

theorem tells_markIf (s : State) (c : Bool) (w : ReportWord) : Tells s (s.markIf c w) [] [] [w] :=
  ⟨_, by simp, by split <;> simp, reports_markIf s c w⟩

theorem tells_judgeHeadline (s : State) : Tells s s.judgeHeadline [] [] [.headline] :=
  ⟨_, by simp, by split <;> simp, reports_judgeHeadline s⟩

theorem tells_setAxisFlag (s : State) (c : AxisClass) (a : AxisId) (on : Bool) :
    Tells s (s.setAxisFlag c a on) (if s.flagMoves c a on then [flagEvent on] else [])
      (if s.flagMoves c a on then [.axisStatus a] else []) [.activeFaults, .headline] := by
  unfold State.setAxisFlag
  by_cases moves : s.flagMoves c a on = true
  · have acts : ¬ (!s.profileActive || (s.axis a).classActive c == on) = true := by simpa [State.flagMoves] using moves
    rw [if_neg acts, if_pos moves, if_pos moves]
    have written := (((reports_raise (s.setAxis a ((s.axis a).withClass c on)) (flagEvent on)).trans (reports_mark _ (.axisStatus a))).tells.trans
      (tells_markIf _ (s.classActive c.toClass != (s.setAxis a ((s.axis a).withClass c on)).classActive c.toClass) .activeFaults)).trans
      (tells_judgeHeadline _)
    exact written.after rfl
  · have idle : (!s.profileActive || (s.axis a).classActive c == on) = true := by
      simpa [State.flagMoves, or_iff_not_imp_left] using moves
    rw [if_pos idle, if_neg moves, if_neg moves]
    exact ⟨[], by simp, by simp, reports_of_report_eq rfl⟩

theorem tells_clearRefresh (s : State) (a : AxisId) :
    Tells s (s.clearRefresh a) (if s.flagMoves .refreshLate a false then [.faultCleared] else [])
      (if s.flagMoves .refreshLate a false then [.axisStatus a] else []) [.activeFaults, .headline] := by
  have told := tells_setAxisFlag (s.setAxis a { s.axis a with refreshPending := false, deadlineTimer := none }) .refreshLate a false
  have moves : (s.setAxis a { s.axis a with refreshPending := false, deadlineTimer := none }).flagMoves .refreshLate a false =
      s.flagMoves .refreshLate a false := by
    simp [State.flagMoves, Axis.classActive]
  rw [moves] at told
  exact told.after rfl

/-- A refresh cleared under an ACTIVE profile: the axis's record, the Fault Monitor where the class ends, and the report. -/
theorem State.clearRefresh_eq {s : State} (active : s.profileActive = true) (a : AxisId) :
    s.clearRefresh a = { s with
      axes := withAxis s a (refreshCleared (s.axis a)), faults := (s.clearRefresh a).faults, report := (s.clearRefresh a).report } := by
  have axes : (s.clearRefresh a).axes = withAxis s a (refreshCleared (s.axis a)) := State.axes_eq_withAxis (State.axis_clearRefresh active a)
  apply State.eq_of_fields <;> simp [axes]

theorem clearRefresh_sameDeviceFlags (s : State) (a : AxisId) : SameDeviceFlags s (s.clearRefresh a) :=
  (sameDeviceFlags_iff _ _).mpr (axisRun_clearRefresh s a).device

theorem clearRefresh_raises_faultCleared {s : State} (active : s.profileActive = true) {a : AxisId} (late : (s.axis a).lateActive = true) :
    (s.clearRefresh a).isPending .faultCleared = true := by
  have moves : s.flagMoves .refreshLate a false = true := by simp [State.flagMoves, active, Axis.classActive, late]
  have told := tells_clearRefresh s a
  rw [if_pos moves] at told
  exact told.isPending (by simp)

/-! ### The grant of the queue head (R105, R106) -/

/-- The state after the grant of a queue entry that becomes the transaction `w`, without the refresh it may satisfy. -/
def State.headGranted (s : State) (w : MTxn) (rest : List QEntry) : State :=
  { s with
    cport := { s.cport with queue := rest }
    mport := { s.mport with busy := some w, starvation := if ownWaits s then s.mport.starvation + 1 else 0 } }

theorem State.grantEntry_eq (s : State) (e : QEntry) (rest : List QEntry) :
    s.grantEntry e rest = match s.satisfies e with
      | some a => (s.headGranted (s.carried e) rest).clearRefresh a
      | none => s.headGranted (s.carried e) rest := by
  unfold State.grantEntry State.headGranted
  rw [State.headStarvation, State.topOwn_isSome] <;> rfl

theorem State.grantEntry_offered (s : State) (e : QEntry) (rest : List QEntry) : (s.grantEntry e rest).cport.offered = s.cport.offered := by
  unfold State.grantEntry
  simp only []
  split <;> simp

section head

variable {s : State} {e : QEntry} {rest : List QEntry} (awake : s.resetHeld = false) (idle : s.mport.busy = none)
  (queue : s.cport.queue = e :: rest) (turn : ownWaits s = false ∨ s.mport.starvation < 4) (nothing : s.cport.offered = [])
include awake idle queue turn nothing

theorem exec_queueHeadGrant : exec .queueHeadGrant s = .next (s.grantEntry e rest) := by
  have grants : s.grantsHead = true := s.grantsHead_iff.mpr ⟨s.portFree_iff.mpr ⟨awake, idle⟩, by simp [queue], turn⟩
  refine congrArg Host.Outcome.next ?_
  simp only [State.grantHead, if_pos grants, queue]
  exact State.admitStretched_nil (by rw [State.grantEntry_offered, nothing])

/-- A granted entry that satisfies no refresh changes the queue and the M-port alone. -/
theorem exec_queueHeadGrant_of_satisfies_none {w : MTxn} (carried : s.carried e = w) (none : s.satisfies e = none) :
    exec .queueHeadGrant s = .next (s.headGranted w rest) := by
  rw [exec_queueHeadGrant awake idle queue turn nothing, State.grantEntry_eq, none, carried]

theorem exec_queueHeadGrant_of_satisfies {w : MTxn} {a : AxisId} (carried : s.carried e = w) (satisfied : s.satisfies e = some a) :
    exec .queueHeadGrant s = .next ((s.headGranted w rest).clearRefresh a) := by
  rw [exec_queueHeadGrant awake idle queue turn nothing, State.grantEntry_eq, satisfied, carried]

end head

theorem State.activeIntentAxis_eq_none {s : State} {addr : Addr} (free : ∀ a, (s.axis a).state ≠ .off → ¬ IntentCovers s a addr) :
    s.activeIntentAxis addr = none := by
  rw [State.activeIntentAxis, Option.map_eq_none_iff, List.find?_eq_none]
  intro u listed decides
  simp only [Bool.and_eq_true, beq_iff_eq, State.axisActive_iff] at decides
  obtain ⟨⟨covers, kind⟩, active⟩ := decides
  exact free u.axis active ⟨u, listed, kind, rfl, covers⟩

/-- Settles O41: what the granted entry carries, and the refresh it satisfies. -/
theorem headGrantCarriesTheOutput : Obligations.HeadGrantCarriesTheOutput := by
  intro s e rest awake idle queue turn nothing grant
  have plain : ∀ w, s.carried e = w → s.satisfies e = none → ∃ t, grant w s.axes t ∧ t.report = s.report := fun w carried none =>
    ⟨s.headGranted w rest, ⟨exec_queueHeadGrant_of_satisfies_none awake idle queue turn nothing carried none, ⟨rfl, rfl, rfl⟩, rfl⟩, rfl⟩
  refine ⟨fun addr lanes read => ?_, fun addr data lanes write => ?_⟩
  · obtain ⟨t, granted, -⟩ := plain _ (by rw [State.carried, read]) (by rw [State.satisfies, read])
    exact ⟨t, granted⟩
  intro carries
  refine ⟨fun a bound off => ?_, fun a bound active profile => ⟨fun own => ?_, fun other => ?_⟩, fun unbound free => ?_,
    fun a unbound active covers only => ?_⟩
  · have inactive : s.axisActive a = false := by simp [State.axisActive, off, AxisState.active]
    exact plain _ (by simp only [State.carried, write, bound, inactive]; rfl) (by simp [State.satisfies, write, bound, inactive])
  · have isActive := (s.axisActive_iff a).mpr active
    have carried : s.carried e = carries (BitVec.ofInt 16 (s.axis a).output) .both := by
      simp only [State.carried, write, bound, isActive, if_true]
      rfl
    have satisfied : s.satisfies e = some a := by simp [State.satisfies, write, bound, isActive, own]
    have active' : (s.headGranted (carries (BitVec.ofInt 16 (s.axis a).output) .both) rest).profileActive = true := profile
    refine ⟨_, ⟨exec_queueHeadGrant_of_satisfies awake idle queue turn nothing carried satisfied, clearRefresh_sameDeviceFlags _ a,
      State.clearRefresh_eq active' a⟩, fun late => clearRefresh_raises_faultCleared active' late⟩
  · have isActive := (s.axisActive_iff a).mpr active
    refine plain _ ?_ (by simp [State.satisfies, write, bound, other])
    simp only [State.carried, write, bound, isActive, if_true]
    rfl
  · refine plain _ ?_ (by simp [State.satisfies, write, unbound])
    simp only [State.carried, write, unbound, State.activeIntentAxis_eq_none free]
    rfl
  · refine plain _ ?_ (by simp [State.satisfies, write, unbound])
    simp only [State.carried, write, unbound, State.activeIntentAxis_eq only covers ((s.axisActive_iff a).mpr active)]
    rfl

end Sys2Proof.Machine
end

section
/-! The grants of own requests in the order of their ranks (R103, R104). -/

namespace Sys2Proof.Machine

/-! ### The request of each rank -/

theorem State.refreshWaiting_eq_some {s : State} {a : AxisId} (pending : (s.axis a).refreshPending = true)
    (lowest : ∀ b < a, (s.axis b).refreshPending = false) : s.refreshWaiting = some a := by
  rw [State.refreshWaiting, List.find?_eq_some_iff_getElem]
  refine ⟨pending, a.val, by simp, by simp, fun b before => ?_⟩
  rw [List.getElem_finRange]
  simp [lowest ⟨b, by omega⟩ before]

theorem ReportWord.all_pairwise : ReportWord.all.Pairwise fun v w => v.offset.val < w.offset.val := by decide

/-- The report word granted is the dirty one of the lowest offset. -/
theorem State.lowestDirty_eq_some {s : State} {w : ReportWord} (dirty : s.isDirty w = true)
    (lowest : ∀ v : ReportWord, v.offset.val < w.offset.val → s.isDirty v = false) : s.lowestDirty = some w := by
  have found : s.lowestDirty.isSome = true := List.find?_isSome.mpr ⟨w, w.mem_all, dirty⟩
  obtain ⟨v, found⟩ := Option.isSome_iff_exists.mp found
  obtain ⟨dirty', before, after, whole, clean⟩ := List.find?_eq_some_iff_append.mp found
  have sorted := ReportWord.all_pairwise
  have listed := w.mem_all
  rw [whole] at sorted listed
  simp only [List.mem_append, List.mem_cons] at listed
  obtain earlier | rfl | later := listed
  · have := clean w earlier
    simp [dirty] at this
  · exact found
  · have lower : v.offset.val < w.offset.val := (List.pairwise_cons.mp (List.pairwise_append.mp sorted).2.1).1 w later
    rw [lowest v lower] at dirty'
    cases dirty'

theorem OwnTurn.grantsOwn {s : State} (turn : OwnTurn s) {r : OwnRequest} (top : s.topOwn = some r) : s.grantsOwn r = true := by
  obtain ⟨awake, idle, first⟩ := turn
  exact (s.grantsOwn_iff r).mpr ⟨s.portFree_iff.mpr ⟨awake, idle⟩, top, first.imp_right fun starved => starved.ge⟩

/-! ### Their grants -/

section grants

variable {s : State} (turn : OwnTurn s)
include turn

theorem exec_refreshGrant {a : AxisId} {addr : Addr} (waiting : s.refreshWaiting = some a) (own : (s.axis a).outAddr = some addr) :
    exec .refreshGrant s = .next ((s.beginOwn
      { kind := .refresh a, addr := addr, data := BitVec.ofInt 16 (s.axis a).output, lanes := .both }).clearRefresh a) := by
  have top : s.topOwn = some .refresh := by simp [State.topOwn, waiting]
  refine congrArg Host.Outcome.next ?_
  simp only [State.grantRefresh, if_pos (turn.grantsOwn top), waiting, own]
  rfl

theorem exec_boostGrant {v : Word} (refresh : refreshWaits s = false) (held : s.severity.boostHeld = some v) :
    exec .boostGrant s = .next ({ s with severity := { s.severity with boostHeld := none } }.beginOwn
      { kind := .boost, addr := s.page.boostAddr, data := v, lanes := .both }) := by
  have top : s.topOwn = some .boost := by simp [State.topOwn_eq, refresh, held]
  refine congrArg Host.Outcome.next ?_
  simp only [State.grantBoost, if_pos (turn.grantsOwn top), held]

theorem exec_reportWordGrant {w : ReportWord} (refresh : refreshWaits s = false) (boost : s.severity.boostHeld = none)
    (lowest : s.lowestDirty = some w) :
    exec .reportWordGrant s = .next ((s.unmark w).beginOwn
      { kind := .report, addr := s.reportAddr w, data := s.reportWord w, lanes := .both }) := by
  have top : s.topOwn = some .report := by
    rw [State.topOwn_eq, ← State.reportWaiting_eq]
    simp [refresh, boost, State.reportWaiting, lowest]
  refine congrArg Host.Outcome.next ?_
  simp only [State.grantReport, if_pos (turn.grantsOwn top), lowest]

theorem exec_ringWordGrant {addr : Addr} {data : Word} (refresh : refreshWaits s = false) (boost : s.severity.boostHeld = none)
    (report : reportWaits s = false) (next : s.nextRingWord = some (addr, data)) :
    exec .ringWordGrant s = .next ({ s with ring := { s.ring with granted := s.ring.granted + 1 } }.beginOwn
      { kind := .ringWord true, addr := addr, data := data, lanes := .both }) := by
  have top : s.topOwn = some .ring := by
    rw [State.topOwn_eq, ← State.ringWaiting_eq]
    simp [refresh, boost, report, State.ringWaiting, next]
  refine congrArg Host.Outcome.next ?_
  simp only [State.grantRing, if_pos (turn.grantsOwn top), next]

theorem exec_sweepReadGrant {pos : Offset} (refresh : refreshWaits s = false) (boost : s.severity.boostHeld = none)
    (report : reportWaits s = false) (ring : ringWaits s = false) (sweep : s.profile.sweep = .sweeping pos) :
    exec .sweepReadGrant s = .next (s.beginOwn { kind := .sweepRead, addr := addrAt s.strapPage pos, data := 0, lanes := .both }) := by
  have top : s.topOwn = some .sweep := by simp [State.topOwn_eq, refresh, boost, report, ring, sweepWaits, sweep]
  refine congrArg Host.Outcome.next ?_
  simp only [State.grantSweep, if_pos (turn.grantsOwn top), sweep]

end grants

theorem Page.slotAddr_eq (p : Page) (slot k : Nat) : p.slotAddr slot k = BitVec.ofNat 18 (256 * p.ringBase + 12 * slot + k) := by
  rw [Page.slotAddr, Page.ringStart, ← BitVec.ofNat_add, Nat.add_assoc]

/-- Settles O42: the layout word by word, and each rank's grant where nothing above it waits. -/
theorem ownGrantsFollowTheirRanks : Obligations.OwnGrantsFollowTheirRanks := by
  refine fun s => ⟨reportLayout s, fun turn => ⟨fun a addr pending lowest own active => ?_, fun v refresh held => ?_,
    fun w refresh boost dirty lowest => ?_, fun words k refresh boost report staged granted => ?_,
    fun pos refresh boost report ring sweep => ?_⟩⟩
  · have active' : (s.beginOwn
        { kind := .refresh a, addr := addr, data := BitVec.ofInt 16 (s.axis a).output, lanes := .both }).profileActive = true := active
    exact ⟨_, exec_refreshGrant turn (State.refreshWaiting_eq_some pending lowest) own, clearRefresh_sameDeviceFlags _ a,
      State.clearRefresh_eq active' a, fun late => clearRefresh_raises_faultCleared active' late⟩
  · exact exec_boostGrant turn refresh held
  · refine ⟨_, exec_reportWordGrant turn refresh boost (State.lowestDirty_eq_some dirty lowest), rfl, rfl, fun v => ?_⟩
    change (s.unmark w).isDirty v = _
    rw [State.isDirty_unmark, Bool.and_comm]
    simp
  · have next : s.nextRingWord = some (s.page.slotAddr s.ring.slot k.val, words[k.val]) := by
      simp [State.nextRingWord, staged, granted]
    rw [exec_ringWordGrant turn refresh boost report next, granted, Page.slotAddr_eq]
    rfl
  · exact exec_sweepReadGrant turn refresh boost report ring sweep

end Sys2Proof.Machine
end

section
/-! The fields of a profile page as the numbers of its words (12.1, R165), and the regions and windows they give. -/

namespace Sys2Proof.Machine

/-! ### Bits of a word as parts of its number -/

theorem getLsbD_iff {n : Nat} (w : BitVec n) (i : Nat) : w.getLsbD i = true ↔ w.toNat / 2 ^ i % 2 = 1 := by
  rw [BitVec.getLsbD, Nat.testBit_eq_decide_div_mod_eq, decide_eq_true_iff]

theorem getLsbD_eq_false_iff' {n : Nat} (w : BitVec n) (i : Nat) : w.getLsbD i = false ↔ w.toNat / 2 ^ i % 2 = 0 := by
  rw [← Bool.not_eq_true, getLsbD_iff]
  omega

theorem Page.word_toNat (p : Page) (o : Nat) : (p.word (BitVec.ofNat 8 o)).toNat = wordAt p o := rfl

theorem Page.wordAt_lt (p : Page) (o : Nat) : wordAt p o < 65536 := (p.word (BitVec.ofNat 8 o)).isLt

theorem Page.high_eq (p : Page) (o : Nat) : p.high (BitVec.ofNat 8 o) = wordAt p o / 256 := highByte_toNat _

theorem Page.low_eq (p : Page) (o : Nat) : p.low (BitVec.ofNat 8 o) = wordAt p o % 256 := lowByte_toNat _

theorem Page.bit_iff (p : Page) (o i : Nat) : p.bit (BitVec.ofNat 8 o) i = true ↔ wordAt p o / 2 ^ i % 2 = 1 := getLsbD_iff _ _

/-- An address made of two bits of one word and of another. -/
theorem address_toNat (w v : Word) (i : Nat) : ((w.extractLsb' i 2 ++ v : Addr)).toNat = w.toNat / 2 ^ i % 4 * 0x10000 + v.toNat := by
  have below := v.isLt
  rw [BitVec.toNat_append, ← Nat.shiftLeft_add_eq_or_of_lt below, Nat.shiftLeft_eq, BitVec.extractLsb'_toNat, Nat.shiftRight_eq_div_pow]

/-! ### Windows -/

theorem Page.window_valid_iff (p : Page) (n : Fin 8) : (p.window n).valid = true ↔ entryValid p n := by
  have below := p.wordAt_lt (0x20 + 3 * n.val)
  change (p.word (BitVec.ofNat 8 (0x20 + 3 * n.val))).getLsbD 15 = true ↔ wordAt p (0x20 + 3 * n.val) / 0x8000 = 1
  rw [getLsbD_iff, Page.word_toNat]
  omega

theorem Page.window_intent_iff (p : Page) (n : Fin 8) : (p.window n).kind = .intent ↔ entryIntent p n := by
  change (if (p.word (BitVec.ofNat 8 (0x20 + 3 * n.val))).getLsbD 14 = true then WindowKind.guard else .intent) = .intent ↔
    wordAt p (0x20 + 3 * n.val) / 0x4000 % 2 = 0
  refine Iff.trans ?_ (getLsbD_eq_false_iff' (p.word (BitVec.ofNat 8 (0x20 + 3 * n.val))) 14)
  cases (p.word (BitVec.ofNat 8 (0x20 + 3 * n.val))).getLsbD 14 <;> simp

theorem Page.window_axis_val (p : Page) (n : Fin 8) : (p.window n).axis.val = entryAxis p n := by
  change ((p.word (BitVec.ofNat 8 (0x20 + 3 * n.val))).extractLsb' 12 2).toNat = wordAt p (0x20 + 3 * n.val) / 0x1000 % 4
  rw [BitVec.extractLsb'_toNat, Nat.shiftRight_eq_div_pow, Page.word_toNat]

theorem Page.window_base_toNat (p : Page) (n : Fin 8) : (p.window n).base.toNat = entryBase p n := by
  refine (address_toNat _ _ _).trans ?_
  rw [Page.word_toNat, Page.word_toNat, Nat.pow_zero, Nat.div_one]
  have place : 0x21 + 3 * n.val = 0x20 + 3 * n.val + 1 := by omega
  rw [place]
  rfl

theorem Page.window_mask_toNat (p : Page) (n : Fin 8) : (p.window n).mask.toNat = entryMask p n := by
  refine (address_toNat _ _ _).trans ?_
  rw [Page.word_toNat, Page.word_toNat]
  have place : 0x22 + 3 * n.val = 0x20 + 3 * n.val + 2 := by omega
  rw [place]
  rfl

theorem Page.window_covers_iff (p : Page) (n : Fin 8) (addr : Addr) : (p.window n).covers addr = true ↔ entryMatches p n addr := by
  rw [Window.covers_iff, Page.window_valid_iff, entryMatches, ← Page.window_base_toNat, ← Page.window_mask_toNat]
  rfl

theorem Window.ext_iff' (u v : Window) :
    u = v ↔ u.valid = v.valid ∧ (u.kind = .intent ↔ v.kind = .intent) ∧ u.axis.val = v.axis.val ∧ u.base.toNat = v.base.toNat ∧
      u.mask.toNat = v.mask.toNat := by
  obtain ⟨valid, kind, axis, base, mask⟩ := u
  obtain ⟨valid', kind', axis', base', mask'⟩ := v
  simp only [Window.mk.injEq, ← Fin.ext_iff, BitVec.toNat_inj]
  cases kind <;> cases kind' <;> simp

theorem Window.differs_iff (u v : Window) :
    u.differs v = true ↔ ¬ (u.valid = true ↔ v.valid = true) ∨ (u.valid = true ∧ v.valid = true ∧
      (¬ (u.kind = .intent ↔ v.kind = .intent) ∨ u.axis.val ≠ v.axis.val ∨ u.base.toNat ≠ v.base.toNat ∨ u.mask.toNat ≠ v.mask.toNat)) := by
  have same := Window.ext_iff' u v
  unfold Window.differs
  by_cases valid : u.valid = true <;> by_cases valid' : v.valid = true <;> simp only [valid, valid'] at same ⊢
  · simp only [Bool.or_self, if_true, decide_eq_true_iff, ne_eq, same]
    tauto
  · simp [same]
  · simp [same]
  · simp

theorem Page.window_differs_iff (old new : Page) (n : Fin 8) : (old.window n).differs (new.window n) = true ↔ entryDiffers old new n := by
  rw [Window.differs_iff, entryDiffers, Page.window_valid_iff, Page.window_valid_iff, Page.window_intent_iff, Page.window_intent_iff,
    Page.window_axis_val, Page.window_axis_val, Page.window_base_toNat, Page.window_base_toNat, Page.window_mask_toNat,
    Page.window_mask_toNat]

theorem tablesDiffer_iff (old new : Page) : tablesDiffer old new = true ↔ ∃ n, entryDiffers old new n := by
  simp only [← Page.window_differs_iff, tablesDiffer, Page.windows, List.zipWith, List.any_cons, List.any_nil, id, Bool.or_false,
    Bool.or_eq_true]
  constructor
  · rintro (h | h | h | h | h | h | h | h) <;> exact ⟨_, h⟩
  · rintro ⟨n, h⟩
    fin_cases n <;> simp_all

/-! ### Regions -/

theorem ownPages_iff (strap : PageNo) (addr : Addr) : ownPages strap addr ↔ pageOf addr = strap ∨ pageOf addr = reportPageOf strap := by
  rw [pageOf_eq_iff, pageOf_eq_iff, reportPageOf_toNat]
  rfl

theorem ringRegion_iff (p : Page) (addr : Addr) : ringRegion p addr ↔ p.inRing addr = true := by
  rw [Page.inRing_iff, ringRegion]
  exact and_congr (p.bit_iff 0x02 4).symm Iff.rfl

theorem Page.boostEnable_iff (p : Page) : p.boostEnable = true ↔ wordAt p 0x09 / 0x8000 = 1 := by
  have below := p.wordAt_lt 0x09
  have bit := p.bit_iff 0x09 15
  change p.bit (BitVec.ofNat 8 0x09) 15 = true ↔ _
  rw [bit]
  omega

theorem Page.boostAddr_toNat (p : Page) : p.boostAddr.toNat = wordAt p 0x09 % 4 * 0x10000 + wordAt p 0x0A := by
  refine (address_toNat _ _ _).trans ?_
  rw [Nat.pow_zero, Nat.div_one]
  rfl

theorem boostsAt_iff (p : Page) (addr : Addr) : boostsAt p addr ↔ p.boostEnable = true ∧ addr = p.boostAddr := by
  rw [boostsAt, Page.boostEnable_iff, ← BitVec.toNat_inj, Page.boostAddr_toNat]

end Sys2Proof.Machine
end

section
/-! The tests of an apply as 12.1 and chapter 5 give them (R82, R85, R117, R159, R160). -/

namespace Sys2Proof.Machine

/-! ### Addresses that two masked bases leave room for (R85) -/

/-- Two masked bases that agree where both masks are set have an address that agrees with each on its mask. -/
theorem exists_address_of_meets {b b' m m' : Addr} (agree : (b ^^^ b') &&& (m &&& m') = 0) :
    ∃ addr : Addr, (∀ i < 18, m.getLsbD i = true → addr.getLsbD i = b.getLsbD i) ∧
      ∀ i < 18, m'.getLsbD i = true → addr.getLsbD i = b'.getLsbD i := by
  rw [masked_xor_eq_zero_iff] at agree
  refine ⟨(b &&& m) ||| (b' &&& ~~~m), fun i place set => by simp [set], fun i place set => ?_⟩
  cases set' : m.getLsbD i with
  | false => simp only [BitVec.getLsbD_or, BitVec.getLsbD_and, BitVec.getLsbD_not, set', place, decide_true, Bool.and_false, Bool.not_false,
      Bool.and_self, Bool.and_true, Bool.false_or]
  | true =>
    have both := agree i place (by simp [set, set'])
    simp only [BitVec.getLsbD_or, BitVec.getLsbD_and, BitVec.getLsbD_not, set', both, Bool.and_true, Bool.not_true, Bool.and_false,
      Bool.or_false]

theorem Window.meets_iff {u v : Window} (hu : u.valid = true) (hv : v.valid = true) :
    u.meets v = true ↔ ∃ addr, u.covers addr = true ∧ v.covers addr = true := by
  refine ⟨fun meets => ?_, fun ⟨addr, hu, hv⟩ => Window.meets_of_covers hu hv⟩
  obtain ⟨addr, ofU, ofV⟩ := exists_address_of_meets (beq_iff_eq.mp meets)
  exact ⟨addr, (u.covers_iff addr).mpr ⟨hu, ofU⟩, (v.covers_iff addr).mpr ⟨hv, ofV⟩⟩

/-- An address whose high bits are a page's lies in the page. -/
theorem pageOf_of_bits {addr : Addr} {page : PageNo} (h : ∀ i < 18, 8 ≤ i → addr.getLsbD i = (addrAt page 0).getLsbD i) :
    pageOf addr = page := by
  refine BitVec.eq_of_getLsbD_eq fun i place => ?_
  rw [pageOf_bit addr place, h (8 + i) (by omega) (by omega), addrAt_bit page 0 (by omega), Nat.add_sub_cancel_left]

theorem Window.meetsPage_iff {w : Window} (valid : w.valid = true) (page : PageNo) :
    w.meetsPage page = true ↔ ∃ addr, w.covers addr = true ∧ pageOf addr = page := by
  refine ⟨fun meets => ?_, fun ⟨addr, covers, at_page⟩ => at_page ▸ Window.meetsPage_of_covers covers⟩
  obtain ⟨addr, ofW, ofPage⟩ := exists_address_of_meets (beq_iff_eq.mp meets)
  exact ⟨addr, (w.covers_iff addr).mpr ⟨valid, ofW⟩, pageOf_of_bits fun i place high =>
    ofPage i place (by rw [pageMask_bit place]; exact decide_eq_true high)⟩

theorem Page.inRing_start_add {p : Page} {i : Nat} (has : p.hasRing = true) (inside : i < min (12 * p.ringLength) 262144) :
    p.inRing (p.ringStart + BitVec.ofNat 18 i) = true := by
  have distance : p.ringStart + BitVec.ofNat 18 i - p.ringStart = BitVec.ofNat 18 i := by
    rw [BitVec.add_comm, BitVec.add_sub_cancel]
  rw [Page.inRing, has, distance, BitVec.toNat_ofNat, Bool.true_and, decide_eq_true_iff]
  omega

theorem Window.meetsRing_iff (w : Window) (p : Page) : w.meetsRing p = true ↔ ∃ addr, w.covers addr = true ∧ p.inRing addr = true := by
  refine ⟨fun meets => ?_, fun ⟨addr, covers, ring⟩ => Window.meetsRing_of_covers covers ring⟩
  rw [Window.meetsRing, Bool.and_eq_true, List.any_eq_true] at meets
  obtain ⟨has, i, inside, covers⟩ := meets
  exact ⟨_, covers, Page.inRing_start_add has (List.mem_range.mp inside)⟩

/-! ### Windows at fault -/

theorem Window.conflicts_iff {u v : Window} (valid : u.valid = true) (i j : Nat) :
    u.conflicts i v j = true ↔ u.axis ≠ v.axis ∧ (v.kind = .intent ∨ j < i) ∧ ∃ addr, u.covers addr = true ∧ v.covers addr = true := by
  have valid_of_covers : (∃ addr, u.covers addr = true ∧ v.covers addr = true) → v.valid = true := fun ⟨addr, _, covers⟩ =>
    ((v.covers_iff addr).mp covers).1
  cases valid' : v.valid with
  | false =>
    have none : ¬ ∃ addr, u.covers addr = true ∧ v.covers addr = true := fun h => by
      have := valid_of_covers h
      simp [valid'] at this
    simp [Window.conflicts, valid', none]
  | true =>
    rw [← Window.meets_iff valid valid']
    cases kind : v.kind <;> simp [Window.conflicts, valid', kind]
    tauto

theorem Page.windowAtFault_iff (p : Page) (strap : PageNo) (n : Fin 8) : p.windowAtFault strap n = true ↔ entryAtFault p strap n := by
  have axes : ∀ m, (p.window n).axis ≠ (p.window m).axis ↔ entryAxis p m ≠ entryAxis p n := fun m => by
    rw [← Page.window_axis_val, ← Page.window_axis_val, ne_comm, ne_eq, ne_eq, Fin.ext_iff]
  simp only [entryAtFault, ← Page.window_covers_iff, ← Page.window_intent_iff, ownPages_iff, ringRegion_iff, boostsAt_iff]
  by_cases kind : (p.window n).kind = .intent
  · by_cases valid : (p.window n).valid = true
    · simp only [Page.windowAtFault, valid, kind, beq_self_eq_true, Bool.true_and, Bool.or_eq_true, Bool.and_eq_true, List.any_eq_true,
        List.mem_finRange, true_and, Window.conflicts_iff valid, Window.meetsPage_iff valid, Window.meetsRing_iff, axes]
      constructor
      · rintro ((((⟨m, other, reaches, addr, covers, covers'⟩ | ⟨addr, covers, profile⟩) | ⟨addr, covers, report⟩) | ⟨addr, covers, ring⟩) |
          ⟨boost, covers⟩)
        · exact ⟨addr, covers, .inl ⟨m, covers', other, reaches⟩⟩
        · exact ⟨addr, covers, .inr (.inl (.inl profile))⟩
        · exact ⟨addr, covers, .inr (.inl (.inr report))⟩
        · exact ⟨addr, covers, .inr (.inr (.inl ring))⟩
        · exact ⟨_, covers, .inr (.inr (.inr ⟨boost, rfl⟩))⟩
      · rintro ⟨addr, covers, ⟨m, covers', other, reaches⟩ | (profile | report) | ring | ⟨boost, rfl⟩⟩
        · exact .inl (.inl (.inl (.inl ⟨m, other, reaches, addr, covers, covers'⟩)))
        · exact .inl (.inl (.inl (.inr ⟨addr, covers, profile⟩)))
        · exact .inl (.inl (.inr ⟨addr, covers, report⟩))
        · exact .inl (.inr ⟨addr, covers, ring⟩)
        · exact .inr ⟨boost, covers⟩
    · have none : ∀ addr, ¬ (p.window n).covers addr = true := fun addr covers => valid (((p.window n).covers_iff addr).mp covers).1
      simp [Page.windowAtFault, valid, none]
  · simp [Page.windowAtFault, kind]

/-! ### The ring region and the boost address at fault -/

theorem addrAt_zero_toNat (page : PageNo) : (addrAt page 0).toNat = page.toNat * 256 := by simp [addrAt_toNat]

/-- The distance of an address from the first of the ring is that of its page's first address and its place in the page. -/
theorem Page.ring_distance (p : Page) (addr : Addr) :
    (addr - p.ringStart).toNat = (addrAt (pageOf addr) 0 - p.ringStart).toNat + addr.toNat % 256 := by
  have start : p.ringStart.toNat = 256 * (p.ringBase % 1024) := by
    rw [Page.ringStart, BitVec.toNat_ofNat]
    omega
  have base := Nat.mod_lt p.ringBase (show 0 < 1024 by decide)
  rw [BitVec.toNat_sub, BitVec.toNat_sub, start, addrAt_zero_toNat, pageOf_toNat]
  generalize p.ringBase % 1024 = k at base
  have paged : (2 ^ 18 - 256 * k + addr.toNat / 256 * 256) % 2 ^ 18 = 256 * ((1024 - k + addr.toNat / 256) % 1024) := by omega
  omega

/-- The ring begins at a page's first address, so a page that it reaches it reaches at the page's first address or begins in. -/
theorem Page.ringMeetsPage_iff (p : Page) (page : PageNo) :
    p.ringMeetsPage page = true ↔ ∃ addr, p.inRing addr = true ∧ pageOf addr = page := by
  rw [Page.ringMeetsPage, Bool.and_eq_true, Bool.or_eq_true, beq_iff_eq]
  constructor
  · rintro ⟨has, first | begins⟩
    · refine ⟨_, first, (pageOf_eq_iff _ _).mpr ?_⟩
      rw [addrAt_zero_toNat]
      omega
    · have length : p.ringLength ≠ 0 := by
        rw [Page.hasRing, Bool.and_eq_true, bne_iff_ne] at has
        exact has.2
      refine ⟨p.ringStart, ?_, begins⟩
      rw [Page.inRing, has, BitVec.sub_self, Bool.true_and, decide_eq_true_iff]
      exact Nat.mul_pos (by decide) (Nat.pos_of_ne_zero length)
  · rintro ⟨addr, ring, rfl⟩
    rw [Page.inRing, Bool.and_eq_true, decide_eq_true_iff, p.ring_distance] at ring
    obtain ⟨has, near⟩ := ring
    refine ⟨has, .inl ?_⟩
    rw [Page.inRing, has, Bool.true_and, decide_eq_true_iff]
    omega

theorem ring_meets_ownPages_iff (p : Page) (strap : PageNo) :
    (∃ addr, ringRegion p addr ∧ ownPages strap addr) ↔ p.ringMeetsPage strap = true ∨ p.ringMeetsPage (reportPageOf strap) = true := by
  simp only [Page.ringMeetsPage_iff, ringRegion_iff, ownPages_iff]
  constructor
  · rintro ⟨addr, ring, profile | report⟩
    · exact .inl ⟨addr, ring, profile⟩
    · exact .inr ⟨addr, ring, report⟩
  · rintro (⟨addr, ring, profile⟩ | ⟨addr, ring, report⟩)
    · exact ⟨addr, ring, .inl profile⟩
    · exact ⟨addr, ring, .inr report⟩

theorem Page.boostAtFault_iff (p : Page) (strap : PageNo) :
    p.boostAtFault strap = true ↔ ∃ addr, boostsAt p addr ∧ (ownPages strap addr ∨ ringRegion p addr) := by
  simp only [boostsAt_iff, ownPages_iff, ringRegion_iff, Page.boostAtFault, Bool.and_eq_true, Bool.or_eq_true, beq_iff_eq]
  constructor
  · rintro ⟨boost, reaches⟩
    exact ⟨_, ⟨boost, rfl⟩, reaches⟩
  · rintro ⟨addr, ⟨boost, rfl⟩, reaches⟩
    exact ⟨boost, reaches⟩

end Sys2Proof.Machine
end

section
/-! A refused apply (R159): the range tests in their order, the other tests, and what a refusal leaves. -/

namespace Sys2Proof.Machine

/-! ### The range tests, one by one -/

/-- A test at a place, said of the place named. -/
theorem test_at_iff {n k : Nat} {A : Prop} {B : Nat → Prop} (h : A ↔ B n) : n = k ∧ A ↔ k = n ∧ B k :=
  ⟨fun ⟨place, fails⟩ => ⟨place.symm, place ▸ h.mp fails⟩, fun ⟨place, fails⟩ => ⟨place.symm, h.mpr (place ▸ fails)⟩⟩

theorem within_eq_false_iff (lo hi v : Nat) : within lo hi v = false ↔ v < lo ∨ hi < v := by
  rw [← Bool.not_eq_true, within, Bool.and_eq_true, decide_eq_true_iff, decide_eq_true_iff]
  omega

theorem withinInt_eq_false_iff (lo hi v : Int) : withinInt lo hi v = false ↔ v < lo ∨ hi < v := by
  rw [← Bool.not_eq_true, withinInt, Bool.and_eq_true, decide_eq_true_iff, decide_eq_true_iff]
  omega

theorem Page.frameRate_isSome_eq_false_iff (p : Page) : p.frameRate.isSome = false ↔ wordAt p 0x02 / 4 % 4 = 3 := by
  have code : ((p.word 0x02).extractLsb' 2 2).toNat = wordAt p 0x02 / 4 % 4 := by
    rw [BitVec.extractLsb'_toNat, Nat.shiftRight_eq_div_pow]
    rfl
  have below := Nat.mod_lt (wordAt p 0x02 / 4) (show 0 < 4 by decide)
  unfold Page.frameRate
  rw [code]
  generalize wordAt p 0x02 / 4 % 4 = c at below
  interval_cases c <;> simp

theorem Page.deviceTests_fail_iff (p : Page) (strap : PageNo) (k : Nat) :
    (∃ t ∈ p.deviceTests strap, t.1 = k ∧ t.2 = false) ↔ deviceFails p strap k := by
  have ringBase : (within 0 1023 p.ringBase && !p.ringMeetsPage strap && !p.ringMeetsPage (reportPageOf strap)) = false ↔
      1023 < wordAt p 0x04 ∨ ∃ addr, ringRegion p addr ∧ ownPages strap addr := by
    rw [ring_meets_ownPages_iff, Bool.and_eq_false_iff, Bool.and_eq_false_iff, within_eq_false_iff, Bool.not_eq_false', Bool.not_eq_false',
      or_assoc]
    exact or_congr (by simp [Page.ringBase, wordAt]) Iff.rfl
  have ringLength : (p.ringLength == 0 || within 2 80 p.ringLength) = false ↔ wordAt p 0x05 = 1 ∨ 80 < wordAt p 0x05 := by
    change (wordAt p 0x05 == 0 || within 2 80 (wordAt p 0x05)) = false ↔ _
    rw [Bool.or_eq_false_iff, within_eq_false_iff, beq_eq_false_iff_ne]
    omega
  have threshold : within 0 32767 p.threshold = false ↔ 32767 < wordAt p 0x06 := by
    rw [within_eq_false_iff]
    simp [Page.threshold, wordAt]
  have entry : within 1 255 p.entryLevel = false ↔ wordAt p 0x07 % 256 = 0 := by
    rw [within_eq_false_iff, Page.entryLevel]
    have low := p.low_eq 0x07
    change p.low 0x07 < 1 ∨ 255 < p.low 0x07 ↔ _
    rw [show p.low 0x07 = _ from low]
    omega
  have exitHold : within 100 25500 p.exitHoldMs = false ↔ wordAt p 0x08 % 256 = 0 := by
    rw [within_eq_false_iff, Page.exitHoldMs, show p.low 0x08 = _ from p.low_eq 0x08]
    omega
  have boost : (!p.boostAtFault strap) = false ↔ ∃ addr, boostsAt p addr ∧ (ownPages strap addr ∨ ringRegion p addr) := by
    rw [Bool.not_eq_false', Page.boostAtFault_iff]
  have stillness : within 0 32767 p.stillness = false ↔ 32767 < wordAt p 0x10 := by
    rw [within_eq_false_iff]
    simp [Page.stillness, wordAt]
  simp only [Page.deviceTests, List.mem_cons, List.not_mem_nil, or_false, or_and_right, exists_or, exists_eq_left]
  exact or_congr (test_at_iff (B := fun o => wordAt p o / 4 % 4 = 3) p.frameRate_isSome_eq_false_iff) <|
    or_congr (test_at_iff (B := fun o => 1023 < wordAt p o ∨ ∃ addr, ringRegion p addr ∧ ownPages strap addr) ringBase) <|
    or_congr (test_at_iff (B := fun o => wordAt p o = 1 ∨ 80 < wordAt p o) ringLength) <|
    or_congr (test_at_iff (B := fun o => 32767 < wordAt p o) threshold) <|
    or_congr (test_at_iff (B := fun o => wordAt p o % 256 = 0) entry) <|
    or_congr (test_at_iff (B := fun o => wordAt p o % 256 = 0) exitHold) <|
    or_congr (test_at_iff (B := fun _ => ∃ addr, boostsAt p addr ∧ (ownPages strap addr ∨ ringRegion p addr)) boost) <|
    test_at_iff (B := fun o => 32767 < wordAt p o) stillness

theorem Page.windowTests_fail_iff (p : Page) (strap : PageNo) (k : Nat) :
    (∃ t ∈ p.windowTests strap, t.1 = k ∧ t.2 = false) ↔ ∃ n : Fin 8, k = 0x20 + 3 * n.val ∧ entryAtFault p strap n := by
  simp only [Page.windowTests, List.mem_map, List.mem_finRange, true_and, exists_exists_eq_and, Bool.not_eq_false', Page.windowAtFault_iff,
    eq_comm (b := k)]

theorem Page.enabled_iff (p : Page) (a : AxisId) : p.enabled a = true ↔ wordAt p (0x40 + 0x20 * a.val) % 2 = 1 := by
  have bit := p.bit_iff (0x40 + 0x20 * a.val + 0) 0
  rw [Nat.pow_zero, Nat.div_one] at bit
  exact bit

theorem signedAt_bounds (p : Page) (o : Nat) : -32768 ≤ signedAt p o ∧ signedAt p o ≤ 32767 := by
  have below := BitVec.toInt_lt (x := p.word (BitVec.ofNat 8 o))
  have above := BitVec.le_toInt (p.word (BitVec.ofNat 8 o))
  unfold signedAt
  omega

theorem Page.axisTests_fail_iff (p : Page) (a : AxisId) (k : Nat) :
    (∃ t ∈ p.axisTests a, t.1 = k ∧ t.2 = false) ↔ axisFails p a k := by
  have mixing : ∀ i, withinInt (-1024) 1023 (p.axisWord a i).toInt = false ↔
      signedAt p (0x40 + 0x20 * a.val + i) < -1024 ∨ 1023 < signedAt p (0x40 + 0x20 * a.val + i) := fun i => withinInt_eq_false_iff _ _ _
  have leak : (within 6 16 (p.kCalm a) && within 6 16 (p.kRough a)) = false ↔
      wordAt p (0x40 + 0x20 * a.val + 5) / 256 < 6 ∨ 16 < wordAt p (0x40 + 0x20 * a.val + 5) / 256 ∨
        wordAt p (0x40 + 0x20 * a.val + 5) % 256 < 6 ∨ 16 < wordAt p (0x40 + 0x20 * a.val + 5) % 256 := by
    rw [Bool.and_eq_false_iff, within_eq_false_iff, within_eq_false_iff, show p.kCalm a = _ from p.high_eq (0x40 + 0x20 * a.val + 5),
      show p.kRough a = _ from p.low_eq (0x40 + 0x20 * a.val + 5), or_assoc]
  have step : ∀ i, withinInt 1 32767 (p.axisWord a i).toInt = false ↔ signedAt p (0x40 + 0x20 * a.val + i) < 1 := fun i => by
    have bounds := signedAt_bounds p (0x40 + 0x20 * a.val + i)
    refine (withinInt_eq_false_iff _ _ _).trans ?_
    change signedAt p (0x40 + 0x20 * a.val + i) < 1 ∨ 32767 < signedAt p (0x40 + 0x20 * a.val + i) ↔ _
    omega
  have limits : decide (p.softLo a < p.softHi a) = false ↔
      signedAt p (0x40 + 0x20 * a.val + 9) ≤ signedAt p (0x40 + 0x20 * a.val + 8) := by
    rw [decide_eq_false_iff_not, not_lt]
    rfl
  have dwell : within 10 2550 (p.dwellMs a) = false ↔ wordAt p (0x40 + 0x20 * a.val + 11) % 256 = 0 := by
    rw [within_eq_false_iff, Page.dwellMs, show p.low (axisOffset a 11) = _ from p.low_eq (0x40 + 0x20 * a.val + 11)]
    omega
  have divider : within 1 16 (p.divider a) = false ↔
      wordAt p (0x40 + 0x20 * a.val + 12) % 256 < 1 ∨ 16 < wordAt p (0x40 + 0x20 * a.val + 12) % 256 := by
    rw [within_eq_false_iff, show p.divider a = _ from p.low_eq (0x40 + 0x20 * a.val + 12)]
  simp only [Page.axisTests, List.map_cons, List.map_nil, List.mem_cons, List.not_mem_nil, or_false, or_and_right, exists_or, exists_eq_left,
    Bool.or_eq_false_iff, Bool.not_eq_false', axisFails, ← Page.enabled_iff, Page.mixing, mixing, leak, Page.stepCalm, Page.stepRough, step,
    limits, dwell, divider]
  constructor
  · rintro (⟨rfl, on, fails⟩ | ⟨rfl, on, fails⟩ | ⟨rfl, on, fails⟩ | ⟨rfl, on, fails⟩ | ⟨rfl, on, fails⟩ | ⟨rfl, on, fails⟩ |
      ⟨rfl, on, fails⟩ | ⟨rfl, on, fails⟩ | ⟨rfl, on, fails⟩) <;> exact ⟨on, by simp only [fails, and_self, true_or, or_true]⟩
  · rintro ⟨on, (⟨rfl, fails⟩ | ⟨rfl, fails⟩ | ⟨rfl, fails⟩) | ⟨rfl, fails⟩ | (⟨rfl, fails⟩ | ⟨rfl, fails⟩) | ⟨rfl, fails⟩ | ⟨rfl, fails⟩ |
      ⟨rfl, fails⟩⟩ <;> simp only [on, fails, and_self, true_or, or_true]

/-- A test of step 2 fails at a place exactly where 12.1 has a field break its range. -/
theorem Page.rangeTests_fail_iff (p : Page) (strap : PageNo) (k : Nat) : (k, false) ∈ p.rangeTests strap ↔ failsAt p strap k := by
  have fails : ∀ l : List (Nat × Bool), (∃ t ∈ l, t.1 = k ∧ t.2 = false) ↔ (k, false) ∈ l := fun l =>
    ⟨fun ⟨t, mem, place, failed⟩ => by rwa [← place, ← failed], fun mem => ⟨_, mem, rfl, rfl⟩⟩
  have anyAxis : (∃ a, axisFails p a k) ↔ axisFails p 0 k ∨ axisFails p 1 k ∨ axisFails p 2 k ∨ axisFails p 3 k :=
    ⟨fun ⟨a, h⟩ => by fin_cases a <;> simp_all, by rintro (h | h | h | h) <;> exact ⟨_, h⟩⟩
  rw [failsAt, anyAxis, Page.rangeTests, ← Page.deviceTests_fail_iff, ← Page.windowTests_fail_iff, fails, fails, ← Page.axisTests_fail_iff,
    ← Page.axisTests_fail_iff, ← Page.axisTests_fail_iff, ← Page.axisTests_fail_iff, fails, fails, fails, fails]
  simp only [List.mem_append, or_assoc]

/-! ### The lowest offset charged -/

/-- Among tests in rising order of place, the first that fails is the one of the lowest place. -/
theorem find_failed_iff {l : List (Nat × Bool)} (sorted : l.Pairwise fun t u => t.1 < u.1) (k : Nat) :
    (l.find? fun t => !t.2) = some (k, false) ↔ (k, false) ∈ l ∧ ∀ j < k, (j, false) ∉ l := by
  constructor
  · intro found
    obtain ⟨-, before, after, whole, passed⟩ := List.find?_eq_some_iff_append.mp found
    rw [whole] at sorted ⊢
    refine ⟨by simp, fun j below mem => ?_⟩
    obtain ⟨-, tail, -⟩ := List.pairwise_append.mp sorted
    simp only [List.mem_append, List.mem_cons] at mem
    obtain earlier | same | later := mem
    · have := passed _ earlier
      simp at this
    · cases same
      exact lt_irrefl _ below
    · exact lt_asymm below ((List.pairwise_cons.mp tail).1 _ later)
  · rintro ⟨mem, lowest⟩
    obtain ⟨⟨j, b⟩, found⟩ := Option.isSome_iff_exists.mp
      ((List.find?_isSome (p := fun t : Nat × Bool => !t.2)).mpr ⟨_, mem, rfl⟩)
    obtain ⟨failed, before, after, whole, passed⟩ := List.find?_eq_some_iff_append.mp found
    cases (by simpa using failed : b = false)
    rw [whole] at sorted mem
    obtain ⟨-, tail, -⟩ := List.pairwise_append.mp sorted
    simp only [List.mem_append, List.mem_cons] at mem
    obtain earlier | same | later := mem
    · have := passed _ earlier
      simp at this
    · rw [found, same]
    · have above := (List.pairwise_cons.mp tail).1 _ later
      exact absurd (by rw [whole]; simp) (lowest j above)

/-- The offsets that the range tests are charged to. -/
theorem Page.rangeTests_offsets (p : Page) (strap : PageNo) :
    (p.rangeTests strap).map Prod.fst =
      [0x02, 0x04, 0x05, 0x06, 0x07, 0x08, 0x09, 0x10, 0x20, 0x23, 0x26, 0x29, 0x2C, 0x2F, 0x32, 0x35,
        0x42, 0x43, 0x44, 0x45, 0x46, 0x47, 0x48, 0x4B, 0x4C, 0x62, 0x63, 0x64, 0x65, 0x66, 0x67, 0x68, 0x6B, 0x6C,
        0x82, 0x83, 0x84, 0x85, 0x86, 0x87, 0x88, 0x8B, 0x8C, 0xA2, 0xA3, 0xA4, 0xA5, 0xA6, 0xA7, 0xA8, 0xAB, 0xAC] := rfl

theorem Page.rangeTests_pairwise (p : Page) (strap : PageNo) : (p.rangeTests strap).Pairwise fun t u => t.1 < u.1 := by
  rw [← List.pairwise_map (f := Prod.fst) (R := (· < ·)), Page.rangeTests_offsets]
  decide

theorem failsAt_lt {p : Page} {strap : PageNo} {k : Nat} (fails : failsAt p strap k) : k < 256 := by
  have listed : k ∈ (p.rangeTests strap).map Prod.fst := List.mem_map_of_mem ((p.rangeTests_fail_iff strap k).mpr fails)
  rw [Page.rangeTests_offsets] at listed
  have small : ∀ j ∈ [0x02, 0x04, 0x05, 0x06, 0x07, 0x08, 0x09, 0x10, 0x20, 0x23, 0x26, 0x29, 0x2C, 0x2F, 0x32, 0x35,
      0x42, 0x43, 0x44, 0x45, 0x46, 0x47, 0x48, 0x4B, 0x4C, 0x62, 0x63, 0x64, 0x65, 0x66, 0x67, 0x68, 0x6B, 0x6C,
      0x82, 0x83, 0x84, 0x85, 0x86, 0x87, 0x88, 0x8B, 0x8C, 0xA2, 0xA3, 0xA4, 0xA5, 0xA6, 0xA7, 0xA8, 0xAB, 0xAC], j < 256 := by decide
  exact small k listed

theorem Page.rangeFault_eq_some_iff (p : Page) (strap : PageNo) (o : Offset) :
    p.rangeFault strap = some o ↔ failsAt p strap o.toNat ∧ ∀ k < o.toNat, ¬ failsAt p strap k := by
  simp only [← Page.rangeTests_fail_iff, ← find_failed_iff (p.rangeTests_pairwise strap), Page.rangeFault, Option.map_eq_some_iff]
  constructor
  · rintro ⟨⟨k, b⟩, found, rfl⟩
    have failed := List.find?_some found
    cases (by simpa using failed : b = false)
    have below := failsAt_lt ((p.rangeTests_fail_iff strap k).mp (List.mem_of_find?_eq_some found))
    rw [BitVec.toNat_ofNat, Nat.mod_eq_of_lt below, found]
  · exact fun found => ⟨_, found, by simp⟩

theorem Page.rangeFault_eq_none_iff (p : Page) (strap : PageNo) : p.rangeFault strap = none ↔ ∀ k, ¬ failsAt p strap k := by
  simp only [← Page.rangeTests_fail_iff, Page.rangeFault, Option.map_eq_none_iff, List.find?_eq_none]
  refine ⟨fun passes k mem => passes _ mem rfl, fun passes t mem failed => passes t.1 ?_⟩
  have : t.2 = false := by simpa using failed
  rwa [← this]

/-! ### PRIORITY, POLICY and the structural fields -/

/-- Six fields that hold each of six numbers hold each once. -/
theorem Page.priorityOk_iff (p : Page) : p.priorityOk = true ↔ p.priorityFields.Perm [1, 2, 3, 4, 5, 6] := by
  rw [Page.priorityOk, List.all_eq_true]
  constructor
  · intro held
    have subset : [1, 2, 3, 4, 5, 6] ⊆ p.priorityFields := fun n listed => List.contains_iff_mem.mp (held n listed)
    exact ((List.subperm_of_subset (by decide) subset).perm_of_length_le (by simp [Page.priorityFields])).symm
  · exact fun perm n listed => List.contains_iff_mem.mpr (perm.mem_iff.mpr listed)

theorem FaultClass.allows_iff (c : FaultClass) (po : Policy) :
    c.allows po = true ↔ po ≠ .invalid ∧ (po = .holdAxis → c = .controllerSilent ∨ c = .limitDwell ∨ c = .refreshLate) ∧
      (po = .holdAll → c ≠ .frameLost) := by
  cases po <;> cases c <;> decide

theorem axesDiffer_iff (old new : Page) :
    axesDiffer old new = true ↔ ∃ a : AxisId, wordAt old (0x40 + 0x20 * a.val) % 2 ≠ wordAt new (0x40 + 0x20 * a.val) % 2 ∨
      (wordAt new (0x40 + 0x20 * a.val) % 2 = 1 ∧ (wordAt old (0x40 + 0x20 * a.val + 8) ≠ wordAt new (0x40 + 0x20 * a.val + 8) ∨
        wordAt old (0x40 + 0x20 * a.val + 9) ≠ wordAt new (0x40 + 0x20 * a.val + 9))) := by
  have words : ∀ (a : AxisId) i, (old.axisWord a i).toInt ≠ (new.axisWord a i).toInt ↔
      wordAt old (0x40 + 0x20 * a.val + i) ≠ wordAt new (0x40 + 0x20 * a.val + i) := fun a i => by
    rw [ne_eq, BitVec.toInt_inj, ← BitVec.toNat_inj]
    rfl
  rw [axesDiffer, anyAxis_iff]
  refine exists_congr fun a => ?_
  simp only [Bool.or_eq_true, Bool.and_eq_true, bne_iff_ne, Page.softLo, Page.softHi, words, Page.enabled_iff, ne_eq]
  refine or_congr_left ?_
  rw [Bool.eq_iff_iff, Page.enabled_iff, Page.enabled_iff]
  omega

theorem structuralDiffer_iff (old new : Page) : structuralDiffer old new = true ↔ structureDiffers old new := by
  have boostAddr : old.boostAddr ≠ new.boostAddr ↔ wordAt old 0x09 % 4 ≠ wordAt new 0x09 % 4 ∨ wordAt old 0x0A ≠ wordAt new 0x0A := by
    have below := old.wordAt_lt 0x0A
    have below' := new.wordAt_lt 0x0A
    rw [ne_eq, ← BitVec.toNat_inj, Page.boostAddr_toNat, Page.boostAddr_toNat]
    omega
  have boostEnable : old.boostEnable ≠ new.boostEnable ↔ wordAt old 0x09 / 0x8000 ≠ wordAt new 0x09 / 0x8000 := by
    have below := old.wordAt_lt 0x09
    have below' := new.wordAt_lt 0x09
    rw [ne_eq, Bool.eq_iff_iff, Page.boostEnable_iff, Page.boostEnable_iff]
    omega
  simp only [structuralDiffer, structureDiffers, Bool.or_eq_true, bne_iff_ne, axesDiffer_iff, tablesDiffer_iff, boostAddr, boostEnable, or_assoc]
  rfl

theorem Page.axis_eq_of_covers {p : Page} {strap : PageNo} (pass : p.WindowsPass strap) {u v : Window} (hu : u ∈ p.windows)
    (hv : v ∈ p.windows) (intent : u.kind = .intent) (intent' : v.kind = .intent) {addr : Addr} (covers : u.covers addr = true)
    (covers' : v.covers addr = true) : u.axis = v.axis := by
  obtain ⟨n, rfl⟩ := (p.mem_windows_iff u).mp hu
  obtain ⟨m, rfl⟩ := (p.mem_windows_iff v).mp hv
  exact ((pass.of_covers intent' covers').1 n intent covers)

/-! ### The judgement of an apply -/

theorem State.structuralOk_eq_false_iff (s : State) (p : Page) :
    s.structuralOk p = false ↔ (∃ a, (s.axis a).state ≠ .off) ∧ ∃ old, s.profile.active = some old ∧ structuralDiffer old p = true := by
  have off : s.allOff = false ↔ ∃ a, (s.axis a).state ≠ .off := by
    simp only [State.allOff, Bool.not_eq_false', anyAxis_iff, State.axisActive_iff]
  unfold State.structuralOk
  rw [Bool.or_eq_false_iff, off]
  cases s.profile.active <;> simp

section judgement

variable {s : State}

theorem State.judgeApply_of_sweeping (sweeping : s.profile.sweep ≠ .done) : s.judgeApply = (.notReady, 0) := by
  have isNot : s.profile.sweep.isDone = false := by rwa [← Bool.not_eq_true, Sweep.isDone_iff]
  simp [State.judgeApply, isNot]

variable (done : s.profile.sweep = .done)
include done

theorem State.judgeApply_of_range {o : Offset} (fault : s.profile.shadow.rangeFault s.strapPage = some o) :
    s.judgeApply = (.range, o) := by
  simp [State.judgeApply, done, Sweep.isDone, fault]

variable (range : s.profile.shadow.rangeFault s.strapPage = none)
include range

theorem State.judgeApply_of_priority (fails : s.profile.shadow.priorityOk = false) : s.judgeApply = (.priority, 0) := by
  simp [State.judgeApply, done, Sweep.isDone, range, fails]

variable (priority : s.profile.shadow.priorityOk = true)
include priority

theorem State.judgeApply_of_policy (fails : s.profile.shadow.policyOk = false) : s.judgeApply = (.policy, 0) := by
  simp [State.judgeApply, done, Sweep.isDone, range, priority, fails]

variable (policy : s.profile.shadow.policyOk = true)
include policy

theorem State.judgeApply_of_busy (fails : s.structuralOk s.profile.shadow = false) : s.judgeApply = (.structuralBusy, 0) := by
  simp [State.judgeApply, done, Sweep.isDone, range, priority, policy, fails]

theorem State.judgeApply_of_passed (passes : s.structuralOk s.profile.shadow = true) : s.judgeApply = (.applied, 0) := by
  simp [State.judgeApply, done, Sweep.isDone, range, priority, policy, passes]

end judgement

/-! ### The path of an apply -/

/-- The state that an apply's tests see: its word merged into the shadow, its write queued. -/
def applySeen (s : State) : State :=
  { s with
    cport := queued s (addrAt s.strapPage 1) 0x00A5 .both none
    profile := { s.profile with shadow := s.profile.shadow.setWord 1 0x00A5, touched := s.profile.touched.set 1 true } }

/-- The state after an apply is judged and its result shown. -/
def State.applyShown (s : State) (r : ApplyResult) (o : Offset) : State :=
  ({ s with profile := { s.profile with applyResult := r, applyOffset := o } }.mark .applyResult).raise .applyDone

theorem State.applyRequest_eq (s : State) :
    s.applyRequest = if s.judgeApply.1 = .applied then (s.applyShown s.judgeApply.1 s.judgeApply.2).takeUpProfile
      else s.applyShown s.judgeApply.1 s.judgeApply.2 := rfl

theorem State.applyShown_eq (s : State) (r : ApplyResult) (o : Offset) :
    s.applyShown r o = { s with
      profile := { s.profile with applyResult := r, applyOffset := o }
      report := (s.applyShown r o).report } := State.raise_eq_setReport _ _

theorem reports_applyShown (s : State) (r : ApplyResult) (o : Offset) : Reports s (s.applyShown r o) [.applyDone] [.applyResult] :=
  ((reports_mark _ _).trans (reports_raise _ _)).after rfl

theorem exec_apply {s : State} (takes : CportTakes s) : exec .apply s = .next (applySeen s).applyRequest := by
  refine congrArg Host.Outcome.next ?_
  rw [State.offerProfileWrite, State.offer_of_takes takes, State.accept, if_neg (by decide), State.acceptClassified, State.classify_profile]
  simp only [State.mergeShadow, mergeLanes_both, State.enqueue, State.handOn]
  rw [if_neg (by decide), if_pos trivial, if_pos (Page.word_setWord_same ..)]
  rfl

/-- Settles O33: the tests are those of the fields as 12.1 places them, and a refusal shows the first that fails and leaves the rest. -/
theorem refusedApplyShowsTheFirstFailure : Obligations.RefusedApplyShowsTheFirstFailure := by
  refine ⟨fun p strap => ⟨p.rangeFault_eq_some_iff strap, p.rangeFault_eq_none_iff strap,
    fun old => ⟨structuralDiffer_iff old p, tablesDiffer_iff old p⟩, p.priorityOk_iff, ?_, ?_⟩, ?_⟩
  · rw [Page.policyOk, List.all_eq_true]
    exact forall₂_congr fun c _ => FaultClass.allows_iff c _
  · exact fun pass u hu v hv intent intent' addr => Page.axis_eq_of_covers pass hu hv intent intent'
  · intro s takes p busy refusal r refused
    have shown : (applySeen s).judgeApply = r → r.1 ≠ .applied → ∃ t, exec .apply s = .next t ∧
        t = { s with
          cport := queued s (addrAt s.strapPage 1) 0x00A5 .both none
          profile := { s.profile with shadow := p, touched := s.profile.touched.set 1 true, applyResult := r.1, applyOffset := r.2 }
          report := t.report } ∧ Reports s t [.applyDone] [.applyResult] := fun judged other => by
      refine ⟨_, exec_apply takes, ?_⟩
      rw [State.applyRequest_eq, judged, if_neg other]
      exact ⟨State.applyShown_eq _ _ _, (reports_applyShown _ _ _).after rfl⟩
    simp only [refusal] at refused
    split_ifs at refused with sweeping range priority policy structural <;> cases refused
    · exact shown (State.judgeApply_of_sweeping (s := applySeen s) sweeping) (by decide)
    · obtain ⟨o, fault⟩ := Option.ne_none_iff_exists'.mp range
      rw [fault] at shown ⊢
      exact shown (State.judgeApply_of_range (s := applySeen s) (not_not.mp sweeping) fault) (by simp)
    · exact shown (State.judgeApply_of_priority (s := applySeen s) (not_not.mp sweeping) (not_not.mp range) priority) (by decide)
    · have priority' : p.priorityOk = true := by simpa using priority
      exact shown (State.judgeApply_of_policy (s := applySeen s) (not_not.mp sweeping) (not_not.mp range) priority' policy) (by decide)
    · have priority' : p.priorityOk = true := by simpa using priority
      have policy' : p.policyOk = true := by simpa using policy
      exact shown (State.judgeApply_of_busy (s := applySeen s) (not_not.mp sweeping) (not_not.mp range) priority' policy'
        ((State.structuralOk_eq_false_iff _ _).mpr structural)) (by decide)

end Sys2Proof.Machine
end

section
/-! What the part dirties (R162, R166), and the canonical form of the RAM. Every operation that reports does it by marks and raises, which dirty
words that the part keeps and no others; `MarksKept` says so of a change, shown once for each operation. -/

namespace Sys2Proof.Machine

/-! ### Marks of kept words -/

/-- From `s` to `t` no report word becomes dirty but those that the part keeps. -/
def MarksKept (s t : State) : Prop :=
  ∀ i : Fin 64, t.report.dirty[i.val] = true → s.report.dirty[i.val] = true ∨ reportsOffset i.val = true

theorem MarksKept.of_dirty {s t : State} (same : t.report.dirty = s.report.dirty) : MarksKept s t := fun i dirty =>
  .inl (by rwa [same] at dirty)

theorem MarksKept.of_report {s t : State} (same : t.report = s.report) : MarksKept s t := .of_dirty (by rw [same])

theorem MarksKept.refl (s : State) : MarksKept s s := .of_report rfl

theorem MarksKept.comp {s t u : State} (k : MarksKept t u) (h : MarksKept s t) : MarksKept s u := fun i dirty => by
  rcases k i dirty with before | kept
  · exact h i before
  · exact .inr kept

theorem DirtyInOrder.marksKept {s t : State} (h : DirtyInOrder s) (k : MarksKept s t) : DirtyInOrder t := fun i dirty => by
  rcases k i dirty with before | kept
  · exact h i before
  · exact kept

/-- A state whose report is another's. -/
theorem MarksKept.after {s t u : State} (k : MarksKept t u) (same : t.report = s.report) : MarksKept s u := k.comp (.of_report same)

theorem marksKept_mark (s : State) (w : ReportWord) : MarksKept s (s.mark w) := fun i dirty => by
  by_cases here : w.offset.val = i.val
  · exact .inr (by rw [← here]; exact reportsOffset_offset w)
  · refine .inl ?_
    simpa [State.mark, Vector.getElem_set_ne _ _ here] using dirty

theorem marksKept_markIf (s : State) (c : Bool) (w : ReportWord) : MarksKept s (s.markIf c w) := by
  unfold State.markIf
  split
  · exact marksKept_mark s w
  · exact .refl s

theorem marksKept_raise (s : State) (e : Event) : MarksKept s (s.raise e) := by
  unfold State.raise
  split
  · exact .refl s
  · exact .comp (marksKept_mark _ _) (.of_dirty rfl)

theorem marksKept_clearEvents (s : State) (w : Word) : MarksKept s (s.clearEvents w) := .comp (marksKept_mark _ _) (.of_dirty rfl)

theorem marksKept_unmark (s : State) (w : ReportWord) : MarksKept s (s.unmark w) := fun i dirty => by
  by_cases here : w.offset.val = i.val
  · exact .inr (by rw [← here]; exact reportsOffset_offset w)
  · refine .inl ?_
    simpa [State.unmark, Vector.getElem_set_ne _ _ here] using dirty

theorem marksKept_forAxes {f : AxisId → State → State} (hf : ∀ a s, MarksKept s (f a s)) (s : State) : MarksKept s (forAxes f s) :=
  forAxes_keeps (P := MarksKept s) (fun a t ht => (hf a t).comp ht) (.refl s)

/-! ### The Fault Monitor -/

theorem marksKept_judgeHeadline (s : State) : MarksKept s s.judgeHeadline := by
  unfold State.judgeHeadline
  split
  · exact .refl s
  · exact .comp (.of_report (State.judgeStat_report _)) ((marksKept_mark _ .headline).after rfl)

theorem marksKept_reportFlag (s : State) (old new : Bool) : MarksKept s (s.reportFlag old new) := by
  unfold State.reportFlag
  split
  · exact .refl s
  · exact .comp (marksKept_mark _ _) (marksKept_raise _ _)

theorem marksKept_setAxisFlag (s : State) (c : AxisClass) (a : AxisId) (on : Bool) : MarksKept s (s.setAxisFlag c a on) := by
  unfold State.setAxisFlag
  split
  · exact .refl s
  · exact .comp (marksKept_judgeHeadline _) <| .comp (marksKept_markIf _ _ _) <| .comp (marksKept_mark _ _) <|
      (marksKept_raise _ _).after rfl

theorem marksKept_setSourceFlags (s : State) (lost fallback : Bool) : MarksKept s (s.setSourceFlags lost fallback) :=
  .comp (marksKept_judgeHeadline _) <| .comp (marksKept_reportFlag _ _ _) <| (marksKept_reportFlag _ _ _).after rfl

theorem marksKept_setFrameLost (s : State) (on : Bool) : MarksKept s (s.setFrameLost on) := by
  unfold State.setFrameLost
  split
  · exact .refl s
  · exact .comp (marksKept_judgeHeadline _) ((marksKept_reportFlag _ _ _).after rfl)

/-! ### Axes -/

theorem marksKept_endBurst (s : State) (b : Burst) (r : ExciteResult) : MarksKept s (s.endBurst b r) :=
  .comp (marksKept_raise _ _) ((marksKept_mark _ _).after rfl)

theorem marksKept_abortBurstOn (s : State) (a : AxisId) : MarksKept s (s.abortBurstOn a) := by
  unfold State.abortBurstOn
  split
  · exact marksKept_endBurst _ _ _
  · exact .refl s

theorem marksKept_setAxisState (s : State) (a : AxisId) (st : AxisState) : MarksKept s (s.setAxisState a st) := by
  unfold State.setAxisState
  split
  · exact .refl s
  · exact .comp (marksKept_abortBurstOn _ _) <| .comp (marksKept_mark _ _) ((marksKept_raise _ _).after rfl)

theorem marksKept_addCause (s : State) (a : AxisId) (c : Cause) : MarksKept s (s.addCause a c) := (marksKept_markIf _ _ _).after rfl

theorem marksKept_clearRefresh (s : State) (a : AxisId) : MarksKept s (s.clearRefresh a) := (marksKept_setAxisFlag _ _ _ _).after rfl

theorem marksKept_hold (s : State) (a : AxisId) (c : Cause) : MarksKept s (s.hold a c) := by
  have enters : MarksKept s (s.enterHeld a c) := .comp (marksKept_setAxisState _ _ _) <|
    .comp ((marksKept_setAxisFlag _ _ _ _).after rfl) <| .comp (marksKept_clearRefresh _ _) (marksKept_addCause _ _ _)
  unfold State.hold
  split
  · exact .refl s
  · exact enters
  · exact enters
  · exact marksKept_addCause _ _ _

theorem marksKept_holdRequest (s : State) (fc : FaultClass) (a : AxisId) : MarksKept s (s.holdRequest fc a) := by
  unfold State.holdRequest
  split
  · exact .refl s
  · exact marksKept_hold _ _ _

theorem marksKept_holdAll (s : State) (fc : FaultClass) : MarksKept s (s.holdAll fc) :=
  marksKept_forAxes (fun a t => marksKept_holdRequest t fc a) s

theorem marksKept_applyDevicePolicy (s : State) (fc : FaultClass) : MarksKept s (s.applyDevicePolicy fc) := by
  unfold State.applyDevicePolicy
  split
  · exact marksKept_holdAll s fc
  all_goals exact .refl s

theorem marksKept_applyAxisPolicy (s : State) (c : AxisClass) (a : AxisId) : MarksKept s (s.applyAxisPolicy c a) := by
  unfold State.applyAxisPolicy
  split
  · exact marksKept_holdRequest s _ a
  · exact marksKept_holdAll s _
  all_goals exact .refl s

theorem marksKept_activate (s : State) (c : AxisClass) (a : AxisId) : MarksKept s (s.activate c a) := by
  unfold State.activate
  split
  · exact .refl s
  · exact .comp (marksKept_applyAxisPolicy _ c a) (marksKept_setAxisFlag s c a true)

theorem marksKept_judgeSources (s : State) : MarksKept s s.judgeSources := by
  have flagged := marksKept_setSourceFlags s s.sourceClasses.1 s.sourceClasses.2
  have lost : MarksKept s (if s.sourceClasses.1 && !s.faults.sourceLost then
      (s.setSourceFlags s.sourceClasses.1 s.sourceClasses.2).applyDevicePolicy .sourceLost
      else s.setSourceFlags s.sourceClasses.1 s.sourceClasses.2) := by
    split
    · exact .comp (marksKept_applyDevicePolicy _ _) flagged
    · exact flagged
  unfold State.judgeSources
  simp only []
  split
  · exact .refl s
  · split
    · exact .comp (marksKept_applyDevicePolicy _ _) lost
    · exact lost

theorem marksKept_silenceExpiry (s : State) (a : AxisId) : MarksKept s (s.silenceExpiry a) := by
  have flagged : MarksKept s ((s.setAxis a { s.axis a with silenceTimer := none }).setAxisFlag .controllerSilent a true) :=
    (marksKept_setAxisFlag _ .controllerSilent a true).after rfl
  unfold State.silenceExpiry
  simp only []
  (repeat' split)
  · exact .refl s
  · exact .of_report rfl
  · exact (marksKept_setAxisState _ _ _).comp flagged
  · exact flagged
  all_goals exact (marksKept_applyAxisPolicy _ _ _).comp flagged

theorem marksKept_dwellExpiry (s : State) (a : AxisId) : MarksKept s (s.dwellExpiry a) := by
  unfold State.dwellExpiry
  split
  · exact .refl s
  · exact (marksKept_activate _ _ _).after rfl

theorem marksKept_deadlineExpiry (s : State) (a : AxisId) : MarksKept s (s.deadlineExpiry a) := by
  unfold State.deadlineExpiry
  simp only []
  (repeat' split)
  · exact .refl s
  · exact (marksKept_activate _ _ _).after rfl
  · exact .of_report rfl

theorem marksKept_measureDwell (s : State) (a : AxisId) : MarksKept s (s.measureDwell a) := by
  unfold State.measureDwell
  (repeat' split)
  · exact .of_report rfl
  · exact .refl s
  · exact (marksKept_setAxisFlag _ _ _ _).after rfl

theorem marksKept_compose (s : State) (a : AxisId) : MarksKept s (s.compose a) :=
  .comp (marksKept_measureDwell _ a) <| .comp (marksKept_markIf _ _ _) <| .comp (marksKept_mark _ _) ((marksKept_mark _ _).after rfl)

theorem markRefresh_report (s : State) (a : AxisId) : (s.markRefresh a).report = s.report := by
  unfold State.markRefresh
  split <;> rfl

theorem countArrival_report (s : State) (a : AxisId) : (s.countArrival a).report = s.report := by
  unfold State.countArrival
  split
  · rw [markRefresh_report]; rfl
  · rfl

theorem marksKept_arrivalAt (s : State) (a : AxisId) : MarksKept s (s.arrivalAt a) := by
  unfold State.arrivalAt
  split
  · exact .comp (.of_report (countArrival_report _ _)) (marksKept_compose s a)
  · exact .refl s

theorem marksKept_recordIntent (s : State) (a : AxisId) (addr : Addr) (data : Word) (lanes : Lanes) :
    MarksKept s (s.recordIntent a addr data lanes) := by
  have flagged : MarksKept s (((s.setAxis a { s.axis a with
      intent := mergedIntent (s.axis a) data lanes, intentValid := true, outAddr := some addr }).mark
      (.intent a)).setAxisFlag .controllerSilent a false) :=
    .comp (marksKept_setAxisFlag _ _ _ _) ((marksKept_mark _ _).after rfl)
  unfold State.recordIntent
  simp only []
  split
  · exact .comp (marksKept_compose _ _) <| .comp (marksKept_setAxisState _ _ _) <| .comp (.of_report rfl) flagged
  · exact flagged

theorem marksKept_markAxisWords (s : State) (a : AxisId) : MarksKept s (s.markAxisWords a) :=
  .comp (marksKept_mark _ _) <| .comp (marksKept_mark _ _) (marksKept_mark _ _)

theorem marksKept_startAxis (s : State) (a : AxisId) : MarksKept s (s.startAxis a) :=
  .comp (marksKept_markAxisWords _ _) <| .comp (marksKept_setAxisState _ _ _) (.of_report (markRefresh_report _ _))

theorem marksKept_stopAxis (s : State) (a : AxisId) : MarksKept s (s.stopAxis a) :=
  .comp (marksKept_mark _ _) <| .comp (marksKept_setAxisState _ _ _) <| .comp (marksKept_setAxisFlag _ _ _ _) <|
    .comp (marksKept_setAxisFlag _ _ _ _) ((marksKept_clearRefresh _ _).after rfl)

theorem marksKept_releaseAxis (s : State) (a : AxisId) : MarksKept s (s.releaseAxis a) :=
  .comp (marksKept_markAxisWords _ _) <| .comp (.of_report (markRefresh_report _ _)) <| .comp (marksKept_compose _ _)
    ((marksKept_setAxisState _ _ _).after rfl)

/-! ### Severity, burst and capture -/

theorem marksKept_setSeverity (s : State) (st : SeverityState) : MarksKept s (s.setSeverity st) := (marksKept_mark _ _).after rfl

theorem holdBoost_report (s : State) (v : Word) : (s.holdBoost v).report = s.report := by
  unfold State.holdBoost
  split <;> rfl

theorem marksKept_startEasing (s : State) : MarksKept s s.startEasing := (marksKept_setSeverity _ _).after rfl

theorem marksKept_settle (s : State) : MarksKept s s.settle := by
  unfold State.settle
  simp only []
  split
  · exact .comp (marksKept_startEasing _) ((marksKept_setSeverity _ _).after rfl)
  · exact (marksKept_setSeverity _ _).after rfl

theorem marksKept_enterBoosting (s : State) : MarksKept s s.enterBoosting := by
  have entered : MarksKept s ((({ s with severity := { s.severity with settleTimer := some s.page.settleMs } }.holdBoost
      s.page.boostActive).setSeverity .boosting).raise .severityEnter) :=
    .comp (marksKept_raise _ _) ((marksKept_setSeverity _ _).after (holdBoost_report _ _))
  unfold State.enterBoosting
  simp only []
  split
  · exact .comp (marksKept_settle _) entered
  · exact entered

theorem marksKept_judgeSeverity (s : State) : MarksKept s s.judgeSeverity := by
  unfold State.judgeSeverity
  (repeat' split)
  · exact marksKept_enterBoosting s
  · exact .refl s
  · exact .refl s
  · exact marksKept_startEasing s
  · exact .refl s
  · exact .refl s
  · exact (marksKept_setSeverity _ _).after rfl

theorem marksKept_updateLevel (s : State) (d : AxisId → Int) : MarksKept s (s.updateLevel d) :=
  .comp (marksKept_judgeSeverity _) ((marksKept_markIf _ _ _).after rfl)

theorem marksKept_settleExpiry (s : State) : MarksKept s s.settleExpiry := by
  unfold State.settleExpiry
  (repeat' split)
  · exact marksKept_settle s
  all_goals exact .refl s

theorem marksKept_exitHoldExpiry (s : State) : MarksKept s s.exitHoldExpiry := by
  unfold State.exitHoldExpiry
  (repeat' split)
  · exact .comp (marksKept_raise _ _) ((marksKept_setSeverity _ _).after (holdBoost_report _ _))
  all_goals exact .refl s

theorem marksKept_burstStep (s : State) : MarksKept s s.burstStep := by
  unfold State.burstStep
  (repeat' split)
  · exact .refl s
  · exact marksKept_endBurst _ _ _
  · exact .of_report rfl

theorem marksKept_endCapture (s : State) (c : Capture) (r : ZeroResult) : MarksKept s (s.endCapture c r) :=
  .comp (marksKept_raise _ _) ((marksKept_mark _ _).after rfl)

theorem marksKept_captureStep (s : State) (arr : Arrival) : MarksKept s (s.captureStep arr) := by
  unfold State.captureStep
  simp only []
  (repeat' split)
  · exact .refl s
  · exact marksKept_endCapture _ _ _
  · exact .comp (marksKept_endCapture _ _ _) <| .comp (marksKept_mark _ _) <| .comp (marksKept_mark _ _) ((marksKept_mark _ _).after rfl)
  · exact .of_report rfl

theorem marksKept_integrateAxis (arr : Arrival) (d : Int) (s : State) (a : AxisId) : MarksKept s (s.integrateAxis arr d a) :=
  .of_report (by simp)

theorem marksKept_arrival (s : State) (arr : Arrival) : MarksKept s (s.arrival arr) :=
  .comp (marksKept_captureStep _ arr) <| .comp (marksKept_updateLevel _ _) <| .comp (marksKept_burstStep _) <|
    .comp (marksKept_forAxes (fun a t => marksKept_arrivalAt t a) _) <|
      marksKept_forAxes (fun a t => marksKept_integrateAxis arr (s.axisRate arr a) t a) s

/-! ### Selection and frames -/

theorem marksKept_abortCapture (s : State) : MarksKept s s.abortCapture := by
  unfold State.abortCapture
  split
  · exact .refl s
  · exact marksKept_endCapture _ _ _

theorem marksKept_abortBurst (s : State) : MarksKept s s.abortBurst := by
  unfold State.abortBurst
  split
  · exact marksKept_endBurst _ _ _
  · exact .refl s

theorem marksKept_switched (s : State) (new : Option Source) : MarksKept s (s.switched new) := by
  have switched : MarksKept s (({ s with selected := new }.raise .sourceSwitch).mark .sourceState).abortCapture :=
    .comp (marksKept_abortCapture _) <| .comp (marksKept_mark _ _) ((marksKept_raise _ _).after rfl)
  unfold State.switched
  simp only []
  split
  · exact .comp (marksKept_abortBurst _) switched
  · exact switched

theorem marksKept_select (s : State) (new : Option Source) : MarksKept s (s.select new) := by
  by_cases same : s.selected = new
  · rw [← same, State.select_same]; exact .refl s
  · rw [State.select_of_ne same]
    exact .comp (marksKept_judgeSources _) (marksKept_switched _ _)

theorem marksKept_reviewSelection (s : State) : MarksKept s s.reviewSelection := by
  unfold State.reviewSelection
  split
  · exact marksKept_select _ _
  · exact .refl s

theorem marksKept_acceptFrame (s : State) (line : Source) (f : List Byte) : MarksKept s (s.acceptFrame line f) := by
  have seen : MarksKept s (s.frameSeen line f) := by
    unfold State.frameSeen
    simp only []
    split
    · exact .of_report rfl
    · exact .comp (marksKept_reviewSelection _) ((marksKept_mark _ _).after rfl)
  rw [State.acceptFrame_eq]
  split
  · exact .comp (marksKept_arrival _ _) seen
  · exact seen

theorem marksKept_staleExpiry (s : State) (src : Source) : MarksKept s (s.staleExpiry src) := by
  have stale : MarksKept s ((s.setLink src { s.link src with state := .stale, staleTimer := none }).mark .sourceState) :=
    (marksKept_mark _ _).after rfl
  unfold State.staleExpiry
  simp only []
  (repeat' split)
  · exact .refl s
  · exact .comp (marksKept_select _ _) stale
  · exact stale

/-! ### Timecode and ring -/

theorem marksKept_frameLostExpiry (s : State) : MarksKept s s.frameLostExpiry := by
  unfold State.frameLostExpiry
  split
  · exact .refl s
  · exact (marksKept_setFrameLost _ _).after rfl

theorem marksKept_pulseTimecode (s : State) : MarksKept s s.pulseTimecode := by
  unfold State.pulseTimecode State.markTime
  (repeat' split)
  · exact .comp (marksKept_raise _ _) <| .comp (marksKept_mark _ _) <| .comp (marksKept_mark _ _) ((marksKept_mark _ _).after rfl)
  · exact .comp (marksKept_mark _ _) ((marksKept_mark _ _).after rfl)
  · exact .refl s

theorem marksKept_captureRecord (s : State) : MarksKept s s.captureRecord := by
  unfold State.captureRecord
  (repeat' split)
  · exact .refl s
  · exact marksKept_raise _ _
  · exact .of_report rfl

theorem marksKept_framePulse (s : State) : MarksKept s s.framePulse := by
  have pulsed : MarksKept s s.pulseFrameLost := by
    unfold State.pulseFrameLost
    split
    · exact .refl s
    · exact (marksKept_setFrameLost _ _).after rfl
  exact .comp (marksKept_captureRecord _) <| .comp (marksKept_pulseTimecode _) pulsed

theorem marksKept_completeRingWord (s : State) : MarksKept s s.completeRingWord := by
  unfold State.completeRingWord State.ringWordWritten
  (repeat' split)
  · exact .refl s
  · exact .of_report rfl
  · exact .comp (marksKept_raise _ _) ((marksKept_mark _ _).after rfl)
  all_goals exact .of_report rfl

/-! ### Commands and applies -/

theorem marksKept_zeroCommand (s : State) : MarksKept s (zeroCommand s).2 := by
  unfold zeroCommand
  (repeat' split)
  · exact .refl s
  · exact .refl s
  · exact (marksKept_mark _ _).after rfl

theorem marksKept_exciteCommand (s : State) : MarksKept s (exciteCommand s).2 := by
  unfold exciteCommand
  simp only []
  split_ifs
  · exact .refl s
  · exact .refl s
  · exact .refl s
  · exact .refl s
  · exact (marksKept_mark _ _).after rfl

theorem marksKept_tcSetCommand (s : State) : MarksKept s (tcSetCommand s).2 := by
  unfold tcSetCommand
  simp only []
  split
  · exact .refl s
  · exact (marksKept_markIf _ _ _).after rfl

theorem marksKept_takeUpRate (s : State) : MarksKept s s.takeUpRate := by
  unfold State.takeUpRate
  (repeat' split)
  · exact .refl s
  · exact .refl s
  · exact (marksKept_mark _ _).after rfl

theorem marksKept_takeUpRing (s : State) (old : Option Page) : MarksKept s (s.takeUpRing old) := by
  unfold State.takeUpRing
  split
  · exact .refl s
  · exact .comp (marksKept_mark _ _) ((marksKept_mark _ _).after rfl)

theorem marksKept_activateProfile (s : State) : MarksKept s s.activateProfile := (marksKept_markIf _ _ _).after rfl

theorem marksKept_retabled (s : State) : MarksKept s s.retabled :=
  .comp (marksKept_takeUpRing _ _) <| .comp (marksKept_takeUpRate _) <| .comp (.of_report (by simp)) (marksKept_activateProfile s)

theorem marksKept_takeUpFaults (s : State) (old : Option Page) : MarksKept s (s.takeUpFaults old) := by
  have judged := marksKept_judgeSources s
  have lost : MarksKept s (if old.isNone && s.judgeSources.timecode.frameLost then s.judgeSources.setFrameLost true else s.judgeSources) := by
    split
    · exact .comp (marksKept_setFrameLost _ _) judged
    · exact judged
  exact .comp (.of_report (State.judgeStat_report _)) <| .comp (marksKept_judgeHeadline _) lost

theorem marksKept_takeUpProfile (s : State) : MarksKept s s.takeUpProfile := by
  rw [State.takeUpProfile_eq]
  exact .comp (marksKept_takeUpFaults _ _) <| .comp (marksKept_reviewSelection _) (marksKept_retabled s)

/-! ### Grants -/

theorem marksKept_grantEntry (s : State) (e : QEntry) (rest : List QEntry) : MarksKept s (s.grantEntry e rest) := by
  unfold State.grantEntry
  simp only []
  split
  · exact (marksKept_clearRefresh _ _).after rfl
  · exact .of_report rfl

theorem marksKept_grantRefresh (s : State) : MarksKept s s.grantRefresh := by
  unfold State.grantRefresh
  (repeat' split)
  · exact .refl s
  · exact (marksKept_clearRefresh _ _).after rfl
  · exact .refl s

theorem marksKept_grantReport (s : State) : MarksKept s s.grantReport := by
  unfold State.grantReport
  (repeat' split)
  · exact .refl s
  · exact .comp (.of_report rfl) (marksKept_unmark s _)
  · exact .refl s

theorem toggleLamp_report (s : State) : s.toggleLamp.report = s.report := by
  unfold State.toggleLamp
  split <;> rfl

/-! ### Every command -/

/-- Only kept words are ever dirty. -/
theorem keptByCommands_dirtyInOrder : KeptByCommands DirtyInOrder := by
  have same : ∀ s t : State, t.report = s.report → DirtyInOrder s → DirtyInOrder t := fun s t report h => h.marksKept (.of_report report)
  have takeUp : ∀ s, DirtyInOrder s → DirtyInOrder s.takeUpProfile := fun s h => h.marksKept (marksKept_takeUpProfile s)
  exact {
    mark := fun s w h => h.marksKept (marksKept_mark s w)
    raise := fun s e h => h.marksKept (marksKept_raise s e)
    clearEvents := fun s w h => h.marksKept (marksKept_clearEvents s w)
    profileUnit := fun s u _ => same _ _ rfl
    offered := fun s o => same _ _ rfl
    enqueueWrite := fun s _ _ _ _ _ _ => same _ _ rfl
    enqueueRead := fun s _ _ _ _ => same _ _ rfl
    consumer := fun s q _ => same _ _ rfl
    recordIntent := fun s a addr data lanes _ _ h => h.marksKept (marksKept_recordIntent s a addr data lanes)
    start := fun s a _ _ _ _ h => h.marksKept (marksKept_startAxis s a)
    stop := fun s a _ _ h => h.marksKept (marksKept_stopAxis s a)
    park := fun s a _ _ h => h.marksKept (marksKept_hold s a .command)
    release := fun s a _ _ h => h.marksKept (marksKept_releaseAxis s a)
    zero := fun s _ h => h.marksKept (marksKept_zeroCommand s)
    excite := fun s _ h => h.marksKept (marksKept_exciteCommand s)
    tcSet := fun s h => h.marksKept (marksKept_tcSetCommand s)
    sourceReturn := fun s _ _ h => h.marksKept (marksKept_select s _)
    takeUp := fun s _ _ => takeUp s
    startUpApply := fun _ _ _ _ _ u _ _ => takeUp u
    pending := fun s l => same _ _ rfl
    reset := fun s bias timecode _ _ => dirtyInOrder_resetBlocks s bias timecode
    strapsRead := fun s straps _ => same _ _ rfl
    tick := fun s => same _ _ rfl
    assembly := fun s line asm => same _ _ (by simp)
    acceptFrame := fun s line f _ h => h.marksKept (marksKept_acceptFrame s line f)
    staleExpiry := fun s src h => h.marksKept (marksKept_staleExpiry s src)
    silenceExpiry := fun s a h => h.marksKept (marksKept_silenceExpiry s a)
    dwellExpiry := fun s a h => h.marksKept (marksKept_dwellExpiry s a)
    deadlineExpiry := fun s a h => h.marksKept (marksKept_deadlineExpiry s a)
    toggleLamp := fun s => same _ _ (toggleLamp_report s)
    settleExpiry := fun s h => h.marksKept (marksKept_settleExpiry s)
    exitHoldExpiry := fun s h => h.marksKept (marksKept_exitHoldExpiry s)
    frameLostExpiry := fun s h => h.marksKept (marksKept_frameLostExpiry s)
    framePulse := fun s h => h.marksKept (marksKept_framePulse s)
    headGranted := fun s e rest _ _ h => h.marksKept (marksKept_grantEntry s e rest)
    refreshGrant := fun s h => h.marksKept (marksKept_grantRefresh s)
    boostGrant := fun s => same _ _ (by simp)
    reportGrant := fun s h => h.marksKept (marksKept_grantReport s)
    ringGrant := fun s => same _ _ (by simp)
    sweepGrant := fun s => same _ _ (by simp)
    writeReady := fun s => same _ _ (by simp)
    ringReady := fun s h => h.marksKept (marksKept_completeRingWord s)
    sweepReady := fun s _ _ _ => same _ _ rfl
    readReady := fun s _ _ _ _ _ => same _ _ rfl }

/-! ### The RAM -/

theorem cutTraffic_ram_wf {s : State} (h : s.ram.wf = true) : s.cutTraffic.ram.wf = true := by
  unfold State.cutTraffic
  split
  next => exact h
  next =>
    split_ifs
    · exact Memory.writeWord_wf _ _ _ h
    · exact h
    · exact h

theorem completeWrite_ram_wf {s : State} (h : s.ram.wf = true) : s.completeWrite.ram.wf = true := by
  unfold State.completeWrite
  (repeat' split)
  · exact h
  · exact Memory.writeWord_wf _ _ _ h
  · exact Memory.writeWord_wf _ _ _ h
  · exact Memory.writeWord_wf _ _ _ h
  · exact Memory.writeWord_wf _ _ _ h
  · exact h
  · exact h
  · exact h

theorem completeRingWord_ram_wf {s : State} (h : s.ram.wf = true) : s.completeRingWord.ram.wf = true := by
  unfold State.completeRingWord
  split
  next => exact h
  next t _ =>
    have stored : (s.ram.writeWord t.addr t.data t.lanes).wf = true := Memory.writeWord_wf _ _ _ h
    (repeat' split)
    · simpa [State.store] using stored
    · exact stored
    all_goals exact h

theorem toggleLamp_ram (s : State) : s.toggleLamp.ram = s.ram := by
  unfold State.toggleLamp
  split <;> rfl

/-- The RAM is written by whole bytes, in its canonical form. -/
theorem keptByCommands_ram_wf : KeptByCommands fun s => s.ram.wf = true := by
  have same : ∀ s t : State, t.ram = s.ram → s.ram.wf = true → t.ram.wf = true := fun s t ram h => ram ▸ h
  exact {
    mark := fun s w => same _ _ rfl
    raise := raise_of_report fun s r => same _ _ rfl
    clearEvents := fun s w => same _ _ rfl
    profileUnit := fun s u _ => same _ _ rfl
    offered := fun s o => same _ _ rfl
    enqueueWrite := fun s _ _ _ _ _ _ => same _ _ rfl
    enqueueRead := fun s _ _ _ _ => same _ _ rfl
    consumer := fun s q _ => same _ _ rfl
    recordIntent := fun s a addr data lanes _ _ => same _ _ (by simp)
    start := fun s a _ _ _ _ => same _ _ (by simp)
    stop := fun s a _ _ => same _ _ (by simp)
    park := fun s a _ _ => same _ _ (by simp)
    release := fun s a _ _ => same _ _ (by simp)
    zero := fun s _ => same _ _ (by simp)
    excite := fun s _ => same _ _ (by simp)
    tcSet := fun s => same _ _ (by simp)
    sourceReturn := fun s _ _ => same _ _ (by simp)
    takeUp := fun s _ _ => same _ _ (by simp)
    startUpApply := fun _ _ _ _ _ u _ _ => same _ _ (by simp)
    pending := fun s l => same _ _ rfl
    reset := fun s bias timecode _ h => cutTraffic_ram_wf h
    strapsRead := fun s straps _ => same _ _ rfl
    tick := fun s => same _ _ rfl
    assembly := fun s line asm => same _ _ (by simp)
    acceptFrame := fun s line f _ => same _ _ (by simp)
    staleExpiry := fun s src => same _ _ (by simp)
    silenceExpiry := fun s a => same _ _ (by simp)
    dwellExpiry := fun s a => same _ _ (by simp)
    deadlineExpiry := fun s a => same _ _ (by simp)
    toggleLamp := fun s => same _ _ (toggleLamp_ram s)
    settleExpiry := fun s => same _ _ (by simp)
    exitHoldExpiry := fun s => same _ _ (by simp)
    frameLostExpiry := fun s => same _ _ (by simp)
    framePulse := fun s => same _ _ (by simp)
    headGranted := fun s e rest _ _ => same _ _ (by simp)
    refreshGrant := fun s => same _ _ (by simp)
    boostGrant := fun s => same _ _ (by simp)
    reportGrant := fun s => same _ _ (by simp)
    ringGrant := fun s => same _ _ (by simp)
    sweepGrant := fun s => same _ _ (by simp)
    writeReady := fun s => completeWrite_ram_wf
    ringReady := fun s => completeRingWord_ram_wf
    sweepReady := fun s _ _ _ => same _ _ rfl
    readReady := fun s _ _ _ _ _ => same _ _ rfl }

/-- Settles O46: each operation keeps both conditions, and so does every step. -/
theorem ramStaysCanonicalAndOnlyKeptWordsDirty : Obligations.RamStaysCanonicalAndOnlyKeptWordsDirty :=
  ⟨fun _ _ => keptByCommands_ram_wf.step, fun _ _ => keptByCommands_dirtyInOrder.step⟩

end Sys2Proof.Machine
end

section
/-! What a change of an axis's state reports and does to a burst (R60, R128), and the commands PARK and STOP (R73, R76). -/

namespace Sys2Proof.Machine

theorem Tells.raises_congr {s t : State} {es es' : List Event} {must may : List ReportWord} (h : Tells s t es must may)
    (events : ∀ e, e ∈ es' ↔ e ∈ es) : Raises s t es' := fun e => by
  rw [h.raises e, decide_eq_decide.mpr (events e)]

/-! ### The burst, cut or left -/

/-- What leaves the burst, and then a cut. -/
theorem BurstCut.after {s t u : State} {cut : Prop} (k : BurstCut t u cut) (h : BurstCut s t False) : BurstCut s u cut := by
  obtain ⟨burst, result, done, word⟩ := h.2 id
  obtain ⟨isCut, left⟩ := k
  rw [burst] at isCut left
  rw [result, done, word] at left
  exact ⟨isCut, left⟩

/-- A cut, and then what leaves the burst. -/
theorem BurstCut.before {s t u : State} {cut : Prop} (h : BurstCut s t cut) (k : BurstCut t u False) : BurstCut s u cut := by
  obtain ⟨burst, result, done, word⟩ := k.2 id
  unfold BurstCut
  rw [burst, result, done, word]
  exact h

theorem BurstCut.congr {s t : State} {cut cut' : Prop} (h : BurstCut s t cut) (same : cut' ↔ cut) : BurstCut s t cut' :=
  (propext same) ▸ h

/-- What tells nothing of a burst and leaves its record and result. -/
theorem burstCut_of_tells {s t : State} {es : List Event} {must may : List ReportWord} (told : Tells s t es must may)
    (event : Event.exciteDone ∉ es) (word : ReportWord.exciteResult ∉ must ++ may) (burst : t.burst = s.burst)
    (result : t.exciteResult = s.exciteResult) : BurstCut s t False :=
  ⟨False.elim, fun _ => ⟨burst, result, told.isPending_of_notMem event, told.isDirty_of_notMem word (by decide)⟩⟩

theorem burstCut_of_reports {s t : State} {es : List Event} {ws : List ReportWord} (told : Reports s t es ws)
    (event : Event.exciteDone ∉ es) (word : ReportWord.exciteResult ∉ ws) (burst : t.burst = s.burst)
    (result : t.exciteResult = s.exciteResult) : BurstCut s t False :=
  burstCut_of_tells told.tells event (by simpa using word) burst result

theorem reports_endBurst (s : State) (b : Burst) (r : ExciteResult) : Reports s (s.endBurst b r) [.exciteDone] [.exciteResult] :=
  ((reports_mark _ _).trans (reports_raise _ _)).after rfl

/-- A burst ended with an abort is cut. -/
theorem burstCut_endBurst {s : State} {r : ExciteResult} (result : r = .aborted s.burst.axis) : BurstCut s (s.endBurst s.burst r) True := by
  have told := reports_endBurst s s.burst r
  exact ⟨fun _ => ⟨by simp, by simp, by simp [State.endBurst, result], told.isPending (by simp), told.isDirty (by simp)⟩,
    fun left => (left trivial).elim⟩

/-- The event of a burst that is aborted. -/
def cutEvents (cut : Bool) : List Event := if cut then [.exciteDone] else []

/-- The report word of a burst that is aborted. -/
def cutWords (cut : Bool) : List ReportWord := if cut then [.exciteResult] else []

@[simp] theorem mem_cutEvents (cut : Bool) (e : Event) : e ∈ cutEvents cut ↔ cut = true ∧ e = .exciteDone := by
  cases cut <;> simp [cutEvents]

@[simp] theorem mem_cutWords (cut : Bool) (w : ReportWord) : w ∈ cutWords cut ↔ cut = true ∧ w = .exciteResult := by
  cases cut <;> simp [cutWords]

theorem burstOn_iff (s : State) (a : AxisId) : burstOn s a = true ↔ s.burst.state = .running ∧ s.burst.axis = a := by simp [burstOn]

theorem reports_abortBurstOn (s : State) (a : AxisId) : Reports s (s.abortBurstOn a) (cutEvents (burstOn s a))
    (cutWords (burstOn s a)) := by
  unfold State.abortBurstOn
  by_cases on : burstOn s a = true
  · rw [if_pos ((burstOn_iff s a).mp on), on]
    exact reports_endBurst _ _ _
  · rw [if_neg (mt (burstOn_iff s a).mpr on), (Bool.not_eq_true _).mp on]
    exact reports_of_report_eq rfl

theorem burstCut_abortBurstOn (s : State) (a : AxisId) : BurstCut s (s.abortBurstOn a) (burstOn s a = true) := by
  unfold State.abortBurstOn
  by_cases on : burstOn s a = true
  · have running := (burstOn_iff s a).mp on
    rw [if_pos running]
    exact (burstCut_endBurst (by rw [running.2])).congr (by simp [on])
  · rw [if_neg (mt (burstOn_iff s a).mpr on)]
    exact ⟨fun cut => (on cut).elim, fun _ => ⟨rfl, rfl, rfl, rfl⟩⟩

/-! ### A change of an axis's state (R60) -/

section change

variable {s : State} {a : AxisId} {st : AxisState} (change : (s.axis a).state ≠ st)
include change

theorem setAxisState_of_ne : s.setAxisState a st =
    (((s.setAxis a { s.axis a with state := st }).raise .axisState).mark (.axisStatus a)).abortBurstOn a := by
  simp [State.setAxisState, change]

theorem reports_setAxisState : Reports s (s.setAxisState a st) (Event.axisState :: cutEvents (burstOn s a))
    (ReportWord.axisStatus a :: cutWords (burstOn s a)) := by
  rw [setAxisState_of_ne change]
  have changed := ((reports_raise (s.setAxis a { s.axis a with state := st }) .axisState).trans (reports_mark _ (.axisStatus a))).after
    (s := s) rfl
  have told := changed.trans (reports_abortBurstOn _ a)
  have burst : burstOn (((s.setAxis a { s.axis a with state := st }).raise .axisState).mark (.axisStatus a)) a = burstOn s a := by
    simp [burstOn]
  rw [burst] at told
  exact told

theorem burstCut_setAxisState : BurstCut s (s.setAxisState a st) (burstOn s a = true) := by
  rw [setAxisState_of_ne change]
  have changed := ((reports_raise (s.setAxis a { s.axis a with state := st }) .axisState).trans (reports_mark _ (.axisStatus a))).after
    (s := s) rfl
  have left : BurstCut s (((s.setAxis a { s.axis a with state := st }).raise .axisState).mark (.axisStatus a)) False :=
    burstCut_of_reports changed (by simp) (by simp) (by simp) (by simp)
  exact ((burstCut_abortBurstOn _ a).after left).congr (by simp [burstOn])

end change

theorem setAxisState_same {s : State} {a : AxisId} {st : AxisState} (same : (s.axis a).state = st) : s.setAxisState a st = s := by
  simp [State.setAxisState, same]

/-! ### Flags that end -/

theorem State.flagMoves_off {s : State} (active : s.profileActive = true) (c : AxisClass) (a : AxisId) :
    s.flagMoves c a false = (s.axis a).classActive c := by
  simp [State.flagMoves, active]

theorem burstCut_setAxisFlag (s : State) (c : AxisClass) (a : AxisId) (on : Bool) : BurstCut s (s.setAxisFlag c a on) False :=
  burstCut_of_tells (tells_setAxisFlag s c a on) (by cases on <;> split <;> simp [flagEvent]) (by split <;> simp) (by simp) (by simp)

theorem burstCut_clearRefresh (s : State) (a : AxisId) : BurstCut s (s.clearRefresh a) False :=
  burstCut_of_tells (tells_clearRefresh s a) (by split <;> simp) (by split <;> simp) (by simp) (by simp)

/-- The events of a flag that ends. -/
def endedBy (flag : Bool) : List Event := if flag then [.faultCleared] else []

/-- The AXIS_STATUS word of an axis whose flag ends. -/
def statusBy (flag : Bool) (a : AxisId) : List ReportWord := if flag then [.axisStatus a] else []

@[simp] theorem mem_endedBy (flag : Bool) (e : Event) : e ∈ endedBy flag ↔ flag = true ∧ e = .faultCleared := by
  cases flag <;> simp [endedBy]

theorem tells_endFlag {s : State} (active : s.profileActive = true) (c : AxisClass) (a : AxisId) :
    Tells s (s.setAxisFlag c a false) (endedBy ((s.axis a).classActive c)) (statusBy ((s.axis a).classActive c) a)
      [.activeFaults, .headline] := by
  have told := tells_setAxisFlag s c a false
  rw [State.flagMoves_off active] at told
  exact told

theorem tells_endRefresh {s : State} (active : s.profileActive = true) (a : AxisId) :
    Tells s (s.clearRefresh a) (endedBy (s.axis a).lateActive) (statusBy (s.axis a).lateActive a) [.activeFaults, .headline] := by
  have told := tells_clearRefresh s a
  rw [State.flagMoves_off active] at told
  exact told

/-! ### The entry to HELD (R71) -/

/-- The state of an entry to HELD when the axis's state changes. -/
def State.quieted (s : State) (a : AxisId) (c : Cause) : State :=
  let t := (s.addCause a c).clearRefresh a
  (t.setAxis a { t.axis a with silenceTimer := none, dwellTimer := none }).setAxisFlag .limitDwell a false

theorem State.enterHeld_eq (s : State) (a : AxisId) (c : Cause) : s.enterHeld a c = (s.quieted a c).setAxisState a .held := rfl

theorem reports_addCause (s : State) (a : AxisId) (c : Cause) :
    Reports s (s.addCause a c) [] (if (s.axis a).causes.has c then [] else [.axisStatus a]) := by
  have told := (reports_markIf (s.setAxis a { s.axis a with causes := (s.axis a).causes.add c }) (!(s.axis a).causes.has c)
    (.axisStatus a)).after (s := s) rfl
  refine told.congr (fun e => Iff.rfl) fun w => ?_
  cases (s.axis a).causes.has c <;> simp

theorem tells_addCause (s : State) (a : AxisId) (c : Cause) : Tells s (s.addCause a c) [] [] [.axisStatus a] :=
  (tells_markIf _ _ _).after rfl

theorem burstCut_addCause (s : State) (a : AxisId) (c : Cause) : BurstCut s (s.addCause a c) False :=
  burstCut_of_tells (tells_addCause s a c) (by simp) (by simp) (by simp) (by simp)

theorem burstCut_quieted (s : State) (a : AxisId) (c : Cause) : BurstCut s (s.quieted a c) False := by
  have cleared : BurstCut s ((s.addCause a c).clearRefresh a) False := (burstCut_clearRefresh _ a).after (burstCut_addCause s a c)
  have stopped : BurstCut ((s.addCause a c).clearRefresh a) (((s.addCause a c).clearRefresh a).setAxis a
      { ((s.addCause a c).clearRefresh a).axis a with silenceTimer := none, dwellTimer := none }) False :=
    ⟨False.elim, fun _ => ⟨rfl, rfl, rfl, rfl⟩⟩
  exact ((burstCut_setAxisFlag _ .limitDwell a false).after stopped).after cleared

theorem State.quieted_state (s : State) (a : AxisId) (c : Cause) (b : AxisId) : ((s.quieted a c).axis b).state = (s.axis b).state := by
  have caused : ((s.addCause a c).axis b).state = (s.axis b).state := by
    rw [State.axis_addCause]
    split
    next same => rw [same]
    next => rfl
  have cleared : StatesStand (s.addCause a c) ((s.addCause a c).clearRefresh a) :=
    .comp (statesStand_setAxisFlag _ _ _ _) (statesStand_setAxis rfl rfl)
  have quieted : StatesStand (s.addCause a c) (s.quieted a c) :=
    .comp (statesStand_setAxisFlag _ .limitDwell a false) (.comp (statesStand_setAxis rfl rfl) cleared)
  exact (quieted b).1.trans caused

theorem tells_quieted {s : State} (active : s.profileActive = true) (a : AxisId) (c : Cause) :
    Tells s (s.quieted a c) (endedBy ((s.axis a).limitDwellActive || (s.axis a).lateActive)) []
      [.axisStatus a, .activeFaults, .headline] := by
  have cleared := (tells_addCause s a c).trans (tells_endRefresh (s := s.addCause a c) (by simpa using active) a)
  have ended := cleared.trans ((tells_endFlag (s := ((s.addCause a c).clearRefresh a).setAxis a
    { ((s.addCause a c).clearRefresh a).axis a with silenceTimer := none, dwellTimer := none })
    (by simpa using active) .limitDwell a).after rfl)
  have late : ((s.addCause a c).axis a).lateActive = (s.axis a).lateActive := by simp [State.axis_addCause]
  have dwell : ((((s.addCause a c).clearRefresh a).setAxis a
      { ((s.addCause a c).clearRefresh a).axis a with silenceTimer := none, dwellTimer := none }).axis a).classActive .limitDwell =
      (s.axis a).limitDwellActive := by
    have active' : (s.addCause a c).profileActive = true := by simpa using active
    simp [Axis.classActive, State.axis_clearRefresh active', refreshCleared, State.axis_addCause]
  rw [late, dwell] at ended
  refine ended.weaken (fun e => ?_) (by simp) ?_
  · cases (s.axis a).limitDwellActive <;> cases (s.axis a).lateActive <;> simp [endedBy]
  · cases (s.axis a).limitDwellActive <;> cases (s.axis a).lateActive <;> simp [statusBy]

/-! ### Holds (R70) -/

theorem AxisState.composes_iff (st : AxisState) : st.composes = true ↔ st = .stabilising ∨ st = .coasting := by
  cases st <;> simp [AxisState.composes]

section enterHeld

variable {s : State} {a : AxisId} (composes : (s.axis a).state.composes = true)
include composes

theorem State.hold_of_composes (c : Cause) : s.hold a c = (s.quieted a c).setAxisState a .held := by
  rcases (AxisState.composes_iff _).mp composes with state | state <;> simp only [State.hold, state, State.enterHeld_eq]

theorem State.quieted_ne_held (c : Cause) : ((s.quieted a c).axis a).state ≠ .held := by
  rw [State.quieted_state]
  rcases (AxisState.composes_iff _).mp composes with state | state <;> simp [state]

theorem tells_hold_of_composes (active : s.profileActive = true) (c : Cause) :
    Tells s (s.hold a c)
      (endedBy ((s.axis a).limitDwellActive || (s.axis a).lateActive) ++ Event.axisState :: cutEvents (burstOn s a))
      (ReportWord.axisStatus a :: cutWords (burstOn s a)) [.activeFaults, .headline] := by
  rw [State.hold_of_composes composes]
  have burst : burstOn (s.quieted a c) a = burstOn s a := by simp [burstOn, State.quieted]
  have told := (tells_quieted active a c).trans (reports_setAxisState (State.quieted_ne_held composes c)).tells
  rw [burst] at told
  exact told.weaken (fun e => Iff.rfl) (by simp) (by simp)

theorem burstCut_hold_of_composes (c : Cause) : BurstCut s (s.hold a c) (burstOn s a = true) := by
  rw [State.hold_of_composes composes]
  have burst : burstOn (s.quieted a c) a = burstOn s a := by simp [burstOn, State.quieted]
  have cut := (burstCut_setAxisState (State.quieted_ne_held composes c)).after (burstCut_quieted s a c)
  rwa [burst] at cut

end enterHeld

/-! ### PARK (R73) -/

theorem CommandReady.offerAxisCommand {s t : State} (ready : CommandReady s) {code : Byte} (isCommand : code ≠ 0) {a : AxisId}
    {r : CmdResult} (owner : ownerCommand code.toNat a (commandSeen s code (axisByte a)) = (r, t)) :
    s.offerCommand code (axisByte a) = t.reportCommand code r := by
  rw [ready.offerCommand isCommand fun _ => by rw [axisByte_toNat]; omega, axisOperand_axisByte, owner]

theorem parkCommand_of_off {s : State} {a : AxisId} (off : (s.axis a).state = .off) : parkCommand a s = (.wrongState, s) := by
  simp [parkCommand, off]

theorem parkCommand_of_held {s : State} {a : AxisId} (held : (s.axis a).state = .held) :
    parkCommand a s = (.done, s.addCause a .command) := by
  simp [parkCommand, State.hold, held]

theorem parkCommand_of_composes {s : State} {a : AxisId} (composes : (s.axis a).state.composes = true) :
    parkCommand a s = (.done, s.hold a .command) := by
  have active : (s.axis a).state ≠ .off := fun off => by simp [off, AxisState.composes] at composes
  simp [parkCommand, active]

theorem State.addCause_eq (s : State) (a : AxisId) (c : Cause) :
    s.addCause a c = { s with
      axes := withAxis s a { s.axis a with causes := (s.axis a).causes.add c }, report := (s.addCause a c).report } := by
  have axes := State.axes_eq_withAxis (State.axis_addCause s a c)
  apply State.eq_of_fields <;> simp [axes]

/-- A hold of an axis under an ACTIVE profile: its record, and what the Fault Monitor, the burst and the report make of it. -/
theorem State.hold_eq {s : State} (active : s.profileActive = true) (a : AxisId) (c : Cause) :
    s.hold a c = { s with
      axes := withAxis s a (heldBy c (s.axis a)), burst := (s.hold a c).burst, exciteResult := (s.hold a c).exciteResult
      faults := (s.hold a c).faults, report := (s.hold a c).report } := by
  have axes : (s.hold a c).axes = withAxis s a (heldBy c (s.axis a)) := State.axes_eq_withAxis (State.axis_hold active a c)
  apply State.eq_of_fields <;> simp [axes]

theorem burstCut_reportCommand (s : State) (code : Byte) (r : CmdResult) : BurstCut s (s.reportCommand code r) False :=
  burstCut_of_reports (reports_reportCommand s code r) (by simp) (by simp) (by simp) (by simp)

theorem burstCut_commandSeen (s : State) (code operand : Byte) : BurstCut s (commandSeen s code operand) False :=
  ⟨False.elim, fun _ => ⟨rfl, rfl, rfl, rfl⟩⟩

/-- A run on axes in a command leaves the device classes' flags. -/
theorem AxisRun.sameDeviceFlags {s t : State} {code operand : Byte} (run : AxisRun (commandSeen s code operand) t) (r : CmdResult) :
    SameDeviceFlags s (t.reportCommand code r) := by
  rw [sameDeviceFlags_iff, State.deviceFlags_congr (s := t) (by simp)]
  exact run.device

/-- Settles O26: PARK of an active axis is a hold with COMMAND, of a HELD one its cause alone. -/
theorem parkHoldsTheAxis : Obligations.ParkHoldsTheAxis := by
  intro s a ready
  have run : ∀ r t, parkCommand a (commandSeen s 3 (axisByte a)) = (r, t) → exec (.park (axisByte a)) s = .next (t.reportCommand 3 r) :=
    fun _ _ owner => congrArg _ (ready.offerAxisCommand (code := 3) (by decide) owner)
  have active : (commandSeen s 3 (axisByte a)).profileActive = true := ready.2.2
  refine ⟨fun off => ⟨_, run _ _ (parkCommand_of_off (s := commandSeen s 3 (axisByte a)) off), refusedWith_reportCommand _ _ _ _⟩,
    fun held => ⟨_, run _ _ (parkCommand_of_held (s := commandSeen s 3 (axisByte a)) held), ?_, ?_⟩, fun composing => ?_⟩
  · rw [State.reportCommand_eq_setReport, State.addCause_eq]
    rfl
  · have told := ((reports_addCause (commandSeen s 3 (axisByte a)) a .command).trans (reports_reportCommand _ 3 .done)).after (s := s) rfl
    refine told.congr (fun e => Iff.rfl) fun w => ?_
    change _ ↔ w ∈ (if (s.axis a).causes.command = true then [] else [.axisStatus a]) ++ [.commandResult]
    simp [or_comm]
  · have composes := (AxisState.composes_iff _).mpr composing
    have told : Tells s (((commandSeen s 3 (axisByte a)).hold a .command).reportCommand 3 .done)
        ((endedBy ((s.axis a).limitDwellActive || (s.axis a).lateActive) ++ Event.axisState :: cutEvents (burstOn s a)) ++
          [.commandDone])
        ((ReportWord.axisStatus a :: cutWords (burstOn s a)) ++ [ReportWord.commandResult]) [.activeFaults, .headline] :=
      ((tells_hold_of_composes (s := commandSeen s 3 (axisByte a)) composes active .command).trans
        (reports_reportCommand _ 3 .done).tells).after rfl
    have cut := (burstCut_hold_of_composes (s := commandSeen s 3 (axisByte a)) composes .command).after (burstCut_commandSeen s 3 _)
    have executed := run _ _ (parkCommand_of_composes (s := commandSeen s 3 (axisByte a)) composes)
    refine ⟨_, executed, ?_, ?_, ?_, ?_, ?_⟩
    · rw [State.reportCommand_eq_setReport, State.hold_eq active]
      rfl
    · exact (axisRun_hold _ a .command).sameDeviceFlags .done
    · exact cut.before (burstCut_reportCommand _ _ _)
    · refine told.raises_congr fun e => ?_
      simp
      tauto
    · refine (told.weaken (fun e => Iff.rfl) ?_ ?_).marksWithin (by simp [faultWords])
      · cases burstOn s a <;> simp [cutWords]
      · cases burstOn s a <;> simp [cutWords, faultWords]

/-! ### STOP (R76) -/

/-- The state of a STOP when the axis's state changes. -/
def State.stopping (s : State) (a : AxisId) : State :=
  let t := (s.setAxis a { s.axis a with causes := .empty, silenceTimer := none, dwellTimer := none }).clearRefresh a
  (t.setAxisFlag .controllerSilent a false).setAxisFlag .limitDwell a false

theorem State.stopAxis_eq (s : State) (a : AxisId) : s.stopAxis a = ((s.stopping a).setAxisState a .off).mark (.axisStatus a) := rfl

theorem State.stopping_state (s : State) (a : AxisId) : ((s.stopping a).axis a).state = (s.axis a).state := by
  have emptied : ((s.setAxis a { s.axis a with causes := .empty, silenceTimer := none, dwellTimer := none }).axis a).state =
      (s.axis a).state := by simp
  have ended : StatesStand (s.setAxis a { s.axis a with causes := .empty, silenceTimer := none, dwellTimer := none }) (s.stopping a) :=
    .comp (statesStand_setAxisFlag _ _ _ _) (.comp (statesStand_setAxisFlag _ _ _ _)
      (.comp (statesStand_setAxisFlag _ _ _ _) (statesStand_setAxis rfl rfl)))
  exact (ended a).1.trans emptied

theorem burstCut_stopping (s : State) (a : AxisId) : BurstCut s (s.stopping a) False := by
  have emptied : BurstCut s (s.setAxis a { s.axis a with causes := .empty, silenceTimer := none, dwellTimer := none }) False :=
    ⟨False.elim, fun _ => ⟨rfl, rfl, rfl, rfl⟩⟩
  exact (burstCut_setAxisFlag _ _ _ _).after ((burstCut_setAxisFlag _ _ _ _).after ((burstCut_clearRefresh _ a).after emptied))

theorem tells_stopping {s : State} (active : s.profileActive = true) (a : AxisId) :
    Tells s (s.stopping a) (endedBy ((s.axis a).silentActive || (s.axis a).limitDwellActive || (s.axis a).lateActive)) []
      [.axisStatus a, .activeFaults, .headline] := by
  let emptied := s.setAxis a { s.axis a with causes := .empty, silenceTimer := none, dwellTimer := none }
  have active₁ : emptied.profileActive = true := active
  have active₂ : (emptied.clearRefresh a).profileActive = true := by simpa using active₁
  have active₃ : ((emptied.clearRefresh a).setAxisFlag .controllerSilent a false).profileActive = true := by simpa using active₂
  have ended := ((tells_endRefresh active₁ a).trans (tells_endFlag active₂ .controllerSilent a)).trans (tells_endFlag active₃ .limitDwell a)
  have late : (emptied.axis a).lateActive = (s.axis a).lateActive := by simp [emptied]
  have silent : ((emptied.clearRefresh a).axis a).classActive .controllerSilent = (s.axis a).silentActive := by
    simp [Axis.classActive, State.axis_clearRefresh active₁, refreshCleared, emptied]
  have dwell : (((emptied.clearRefresh a).setAxisFlag .controllerSilent a false).axis a).classActive .limitDwell =
      (s.axis a).limitDwellActive := by
    simp [Axis.classActive, State.axis_setAxisFlag active₂, State.axis_clearRefresh active₁, refreshCleared, Axis.withClass, emptied]
  rw [late, silent, dwell] at ended
  refine (ended.after rfl).weaken (fun e => ?_) (by simp) ?_
  · cases (s.axis a).silentActive <;> cases (s.axis a).limitDwellActive <;> cases (s.axis a).lateActive <;> simp [endedBy]
  · cases (s.axis a).silentActive <;> cases (s.axis a).limitDwellActive <;> cases (s.axis a).lateActive <;> simp [statusBy]

section stopAxis

variable {s : State} {a : AxisId} (on : (s.axis a).state ≠ .off)
include on

theorem tells_stopAxis (active : s.profileActive = true) :
    Tells s (s.stopAxis a)
      (endedBy ((s.axis a).silentActive || (s.axis a).limitDwellActive || (s.axis a).lateActive) ++
        Event.axisState :: cutEvents (burstOn s a))
      (ReportWord.axisStatus a :: cutWords (burstOn s a)) [.activeFaults, .headline] := by
  rw [State.stopAxis_eq]
  have burst : burstOn (s.stopping a) a = burstOn s a := by simp [burstOn, State.stopping]
  have change : ((s.stopping a).axis a).state ≠ .off := by rwa [State.stopping_state]
  have told := ((tells_stopping active a).trans (reports_setAxisState change).tells).trans (reports_mark _ (.axisStatus a)).tells
  rw [burst] at told
  exact told.weaken (fun e => by simp) (by simp) (by cases burstOn s a <;> simp [cutWords])

theorem burstCut_stopAxis : BurstCut s (s.stopAxis a) (burstOn s a = true) := by
  rw [State.stopAxis_eq]
  have burst : burstOn (s.stopping a) a = burstOn s a := by simp [burstOn, State.stopping]
  have change : ((s.stopping a).axis a).state ≠ .off := by rwa [State.stopping_state]
  have cut := (burstCut_setAxisState change).after (burstCut_stopping s a)
  rw [burst] at cut
  exact cut.before (burstCut_of_reports (reports_mark _ _) (by simp) (by simp) (by simp) (by simp))

end stopAxis

theorem State.stopAxis_fields {s : State} (active : s.profileActive = true) (a : AxisId) :
    s.stopAxis a = { s with
      axes := withAxis s a (stoppedAxis (s.axis a)), burst := (s.stopAxis a).burst, exciteResult := (s.stopAxis a).exciteResult
      faults := (s.stopAxis a).faults, report := (s.stopAxis a).report } := by
  have axes : (s.stopAxis a).axes = withAxis s a (stoppedAxis (s.axis a)) := State.axes_eq_withAxis (State.axis_stopAxis active a)
  apply State.eq_of_fields <;> simp [axes]

theorem stopCommand_of_off {s : State} {a : AxisId} (off : (s.axis a).state = .off) : stopCommand a s = (.done, s) := by
  simp [stopCommand, off]

theorem stopCommand_of_active {s : State} {a : AxisId} (on : (s.axis a).state ≠ .off) : stopCommand a s = (.done, s.stopAxis a) := by
  simp [stopCommand, on]

/-- Settles O25: STOP of an active axis ends its classes and its state, and of an OFF axis reports alone. -/
theorem stopTakesTheAxisOff : Obligations.StopTakesTheAxisOff := by
  intro s a ready
  have run : ∀ r t, stopCommand a (commandSeen s 2 (axisByte a)) = (r, t) → exec (.stop (axisByte a)) s = .next (t.reportCommand 2 r) :=
    fun _ _ owner => congrArg _ (ready.offerAxisCommand (code := 2) (by decide) owner)
  have active : (commandSeen s 2 (axisByte a)).profileActive = true := ready.2.2
  refine ⟨fun off => ⟨_, run _ _ (stopCommand_of_off (s := commandSeen s 2 (axisByte a)) off), refusedWith_reportCommand _ _ _ _⟩, fun on => ?_⟩
  have told : Tells s (((commandSeen s 2 (axisByte a)).stopAxis a).reportCommand 2 .done)
      ((endedBy ((s.axis a).silentActive || (s.axis a).limitDwellActive || (s.axis a).lateActive) ++
        Event.axisState :: cutEvents (burstOn s a)) ++ [Event.commandDone])
      ((ReportWord.axisStatus a :: cutWords (burstOn s a)) ++ [ReportWord.commandResult]) [.activeFaults, .headline] :=
    ((tells_stopAxis (s := commandSeen s 2 (axisByte a)) on active).trans (reports_reportCommand _ 2 .done).tells).after rfl
  have cut := (burstCut_stopAxis (s := commandSeen s 2 (axisByte a)) on).after (burstCut_commandSeen s 2 _)
  have executed := run _ _ (stopCommand_of_active (s := commandSeen s 2 (axisByte a)) on)
  refine ⟨_, executed, ?_, ?_, ?_, ?_, ?_⟩
  · rw [State.reportCommand_eq_setReport, State.stopAxis_fields active]
    rfl
  · exact (axisRun_stopAxis _ a).sameDeviceFlags .done
  · exact cut.before (burstCut_reportCommand _ _ _)
  · refine told.raises_congr fun e => ?_
    simp
    tauto
  · refine (told.weaken (fun e => Iff.rfl) ?_ ?_).marksWithin (by simp [faultWords])
    · cases burstOn s a <;> simp [cutWords]
    · cases burstOn s a <;> simp [cutWords, faultWords]

end Sys2Proof.Machine
end

section
/-! Runs of holds (R70, R71, R139): the axes only go to HELD, the classes LIMIT_DWELL and REFRESH_LATE only end, and AXIS_STATE, FAULT_CLEARED
and the abort of a burst follow from the axes' records. -/

namespace Sys2Proof.Machine

/-- The words that holds may mark. -/
def heldWords : List ReportWord := faultWords ++ [.exciteResult, .axisStatus 0, .axisStatus 1, .axisStatus 2, .axisStatus 3]

theorem axisStatus_mem_heldWords (a : AxisId) : ReportWord.axisStatus a ∈ heldWords := by
  fin_cases a <;> simp [heldWords]

/-- Some axis's LIMIT_DWELL or REFRESH_LATE has changed. -/
def FlagEnded (s t : State) : Prop :=
  ∃ a, (t.axis a).limitDwellActive ≠ (s.axis a).limitDwellActive ∨ (t.axis a).lateActive ≠ (s.axis a).lateActive

/-- Some axis's state has changed. -/
def StateMoved (s t : State) : Prop := ∃ a, (t.axis a).state ≠ (s.axis a).state

/-- What holds make of the axes, the burst and the report. -/
structure HoldRun (s t : State) : Prop where
  state : ∀ a, (t.axis a).state = (s.axis a).state ∨ (t.axis a).state = .held
  held : ∀ a, (s.axis a).state = .held → (t.axis a).state = .held
  dwell : ∀ a, (s.axis a).limitDwellActive = false → (t.axis a).limitDwellActive = false
  late : ∀ a, (s.axis a).lateActive = false → (t.axis a).lateActive = false
  moved : t.isPending .axisState = true ↔ s.isPending .axisState = true ∨ StateMoved s t
  cleared : t.isPending .faultCleared = true ↔ s.isPending .faultCleared = true ∨ FlagEnded s t
  burst : BurstCut s t (BurstAxisMoved s t)
  events : ∀ e, e ∉ [Event.axisState, .faultCleared, .exciteDone] → t.isPending e = s.isPending e
  words : ∀ w, w ∉ heldWords → t.isDirty w = s.isDirty w

/-! ### Runs one after another -/

theorem HoldRun.state_ne_iff {s t u : State} (h : HoldRun s t) (k : HoldRun t u) (a : AxisId) :
    (u.axis a).state ≠ (s.axis a).state ↔ (t.axis a).state ≠ (s.axis a).state ∨ (u.axis a).state ≠ (t.axis a).state := by
  constructor
  · intro moved
    by_contra still
    rw [not_or, not_not, not_not] at still
    exact moved (still.2.trans still.1)
  · rintro (first | second) same
    · have held := (h.state a).resolve_left first
      exact first (held.trans ((k.held a held).symm.trans same))
    · have held := (k.state a).resolve_left second
      exact second (held.trans (h.held a (same.symm.trans held)).symm)

theorem HoldRun.stateMoved_iff {s t u : State} (h : HoldRun s t) (k : HoldRun t u) : StateMoved s u ↔ StateMoved s t ∨ StateMoved t u := by
  unfold StateMoved
  rw [← exists_or]
  exact exists_congr fun a => h.state_ne_iff k a

theorem HoldRun.flagEnded_iff {s t u : State} (h : HoldRun s t) (k : HoldRun t u) : FlagEnded s u ↔ FlagEnded s t ∨ FlagEnded t u := by
  unfold FlagEnded
  rw [← exists_or]
  refine exists_congr fun a => ?_
  have dwell₁ := h.dwell a
  have dwell₂ := k.dwell a
  have late₁ := h.late a
  have late₂ := k.late a
  revert dwell₁ dwell₂ late₁ late₂
  generalize (s.axis a).limitDwellActive = d₁, (t.axis a).limitDwellActive = d₂, (u.axis a).limitDwellActive = d₃,
    (s.axis a).lateActive = l₁, (t.axis a).lateActive = l₂, (u.axis a).lateActive = l₃
  revert d₁ d₂ d₃ l₁ l₂ l₃
  decide

theorem HoldRun.burst_comp {s t u : State} (h : HoldRun s t) (k : HoldRun t u) : BurstCut s u (BurstAxisMoved s u) := by
  by_cases cut : BurstAxisMoved s t
  · obtain ⟨idle, -⟩ := h.burst.1 cut
    have still : ¬ BurstAxisMoved t u := fun moved => by simp [moved.1] at idle
    have moved : BurstAxisMoved s u := ⟨cut.1, (h.state_ne_iff k _).mpr (.inl cut.2)⟩
    exact (h.burst.before (k.burst.congr (by simp [still]))).congr (by simp [cut, moved])
  · obtain ⟨burst, -⟩ := h.burst.2 cut
    refine (k.burst.after (h.burst.congr (by simp [cut]))).congr ?_
    unfold BurstAxisMoved at cut ⊢
    rw [burst]
    refine and_congr_right fun running => ?_
    rw [h.state_ne_iff k]
    exact or_iff_right fun moved => cut ⟨running, moved⟩

theorem HoldRun.comp {s t u : State} (k : HoldRun t u) (h : HoldRun s t) : HoldRun s u where
  state a := by
    rcases k.state a with same | held
    · rw [same]; exact h.state a
    · exact .inr held
  held a := k.held a ∘ h.held a
  dwell a := k.dwell a ∘ h.dwell a
  late a := k.late a ∘ h.late a
  moved := by rw [k.moved, h.moved, h.stateMoved_iff k, or_assoc]
  cleared := by rw [k.cleared, h.cleared, h.flagEnded_iff k, or_assoc]
  burst := h.burst_comp k
  events e out := (k.events e out).trans (h.events e out)
  words w out := (k.words w out).trans (h.words w out)

/-! ### Single holds -/

/-- An operation that leaves the axes' states and the two classes, the burst and the events. -/
theorem HoldRun.of_tells {s t : State} {may : List ReportWord} (told : Tells s t [] [] may) (within : ∀ w ∈ may, w ∈ heldWords)
    (apart : ReportWord.exciteResult ∉ may) (burst : t.burst = s.burst) (result : t.exciteResult = s.exciteResult)
    (axes : ∀ a, (t.axis a).state = (s.axis a).state ∧ (t.axis a).limitDwellActive = (s.axis a).limitDwellActive ∧
      (t.axis a).lateActive = (s.axis a).lateActive) : HoldRun s t where
  state a := .inl (axes a).1
  held a h := (axes a).1.trans h
  dwell a h := (axes a).2.1.trans h
  late a h := (axes a).2.2.trans h
  moved := by simp [told.isPending_of_notMem, StateMoved, axes]
  cleared := by simp [told.isPending_of_notMem, FlagEnded, axes]
  burst := (burstCut_of_tells told (by simp) (by simpa using apart) burst result).congr (by simp [BurstAxisMoved, axes])
  events e _ := told.isPending_of_notMem (by simp)
  words w out := told.isDirty_of_notMem (fun mem => out (within w (by simpa using mem))) fun own => out (own ▸ by simp [heldWords, faultWords])

theorem HoldRun.refl (s : State) : HoldRun s s :=
  .of_tells (may := []) ⟨[], by simp, by simp, reports_of_report_eq rfl⟩ (by simp) (by simp) rfl rfl fun _ => ⟨rfl, rfl, rfl⟩

theorem holdRun_addCause (s : State) (a : AxisId) (c : Cause) : HoldRun s (s.addCause a c) :=
  .of_tells (tells_addCause s a c) (by simp [axisStatus_mem_heldWords]) (by simp) (by simp) (by simp) fun b => by
    rw [State.axis_addCause]
    split
    next same => subst same; exact ⟨rfl, rfl, rfl⟩
    next => exact ⟨rfl, rfl, rfl⟩

theorem heldBy_of_composes {ax : Axis} (composes : ax.state.composes = true) (c : Cause) :
    (heldBy c ax).state = .held ∧ (heldBy c ax).limitDwellActive = false ∧ (heldBy c ax).lateActive = false := by
  rcases (AxisState.composes_iff _).mp composes with state | state <;> simp [heldBy, state]

theorem lapsed_iff (dwell late : Bool) : (false ≠ dwell ∨ false ≠ late) ↔ (dwell || late) = true := by
  revert dwell late
  decide

theorem holdRun_hold_of_composes {s : State} {a : AxisId} (composes : (s.axis a).state.composes = true) (active : s.profileActive = true)
    (c : Cause) : HoldRun s (s.hold a c) := by
  have told := tells_hold_of_composes composes active c
  obtain ⟨state, dwell, late⟩ := heldBy_of_composes composes c
  have here : (s.hold a c).axis a = heldBy c (s.axis a) := by rw [State.axis_hold active, if_pos rfl]
  have there : ∀ b, b ≠ a → (s.hold a c).axis b = s.axis b := fun b other => by rw [State.axis_hold active, if_neg other]
  have ne_held : (s.axis a).state ≠ .held := AxisState.ne_held_of_composes composes
  have moved : ((s.hold a c).axis a).state ≠ (s.axis a).state := by rw [here, state]; exact ne_held.symm
  refine ⟨fun b => ?_, fun b => ?_, fun b => ?_, fun b => ?_, ?_, ?_, ?_, fun e out => ?_, fun w out => ?_⟩
  · by_cases same : b = a
    · subst same; exact .inr (by rw [here, state])
    · exact .inl (by rw [there b same])
  · by_cases same : b = a
    · subst same; exact fun _ => by rw [here, state]
    · rw [there b same]; exact id
  · by_cases same : b = a
    · subst same; exact fun _ => by rw [here, dwell]
    · rw [there b same]; exact id
  · by_cases same : b = a
    · subst same; exact fun _ => by rw [here, late]
    · rw [there b same]; exact id
  · have changed : StateMoved s (s.hold a c) := ⟨a, moved⟩
    simp [told.isPending (e := .axisState), changed]
  · rw [told.raises .faultCleared]
    have ended : FlagEnded s (s.hold a c) ↔ ((s.axis a).limitDwellActive || (s.axis a).lateActive) = true := by
      constructor
      · rintro ⟨b, changed⟩
        by_cases same : b = a
        · subst same
          rw [here, dwell, late] at changed
          exact (lapsed_iff _ _).mp changed
        · simp [there b same] at changed
      · intro flagged
        exact ⟨a, by rw [here, dwell, late]; exact (lapsed_iff _ _).mpr flagged⟩
    rw [ended]
    simp
  · refine (burstCut_hold_of_composes composes c).congr ?_
    rw [burstOn_iff]
    refine and_congr_right fun _ => ⟨fun changed => ?_, fun on => by rw [on]; exact moved⟩
    by_contra other
    exact changed (by rw [there _ other])
  · refine told.isPending_of_notMem fun mem => out ?_
    simp only [List.mem_append, List.mem_cons, mem_endedBy, mem_cutEvents] at mem ⊢
    tauto
  · refine told.isDirty_of_notMem (fun mem => out ?_) fun own => out (own ▸ by simp [heldWords, faultWords])
    simp only [List.mem_append, List.mem_cons, mem_cutWords, List.not_mem_nil, or_false] at mem
    rcases mem with (rfl | ⟨-, rfl⟩) | rfl | rfl
    · exact axisStatus_mem_heldWords a
    all_goals simp [heldWords, faultWords]

theorem holdRun_hold {s : State} (active : s.profileActive = true) (a : AxisId) (c : Cause) : HoldRun s (s.hold a c) := by
  cases state : (s.axis a).state with
  | off =>
    have same : s.hold a c = s := by simp [State.hold, state]
    rw [same]
    exact .refl s
  | held =>
    have caused : s.hold a c = s.addCause a c := by simp [State.hold, state]
    rw [caused]
    exact holdRun_addCause s a c
  | stabilising | coasting => exact holdRun_hold_of_composes (by simp [state, AxisState.composes]) active c

/-! ### Policies -/

theorem holdRun_holdRequest {s : State} (active : s.profileActive = true) (fc : FaultClass) (a : AxisId) :
    HoldRun s (s.holdRequest fc a) := by
  unfold State.holdRequest
  split
  · exact .refl s
  · exact holdRun_hold active a _

theorem holdRun_holdAll {s : State} (active : s.profileActive = true) (fc : FaultClass) : HoldRun s (s.holdAll fc) :=
  (forAxes_keeps (P := fun t => t.profileActive = true ∧ HoldRun s t)
    (fun a _ ht => ⟨by simpa using ht.1, (holdRun_holdRequest ht.1 fc a).comp ht.2⟩) ⟨active, .refl s⟩).2

theorem holdRun_applyDevicePolicy {s : State} (active : s.profileActive = true) (fc : FaultClass) : HoldRun s (s.applyDevicePolicy fc) := by
  unfold State.applyDevicePolicy
  split
  · exact holdRun_holdAll active fc
  all_goals exact .refl s

theorem holdRun_applyAxisPolicy {s : State} (active : s.profileActive = true) (c : AxisClass) (a : AxisId) :
    HoldRun s (s.applyAxisPolicy c a) := by
  unfold State.applyAxisPolicy
  split
  · exact holdRun_holdRequest active _ a
  · exact holdRun_holdAll active _
  all_goals exact .refl s

end Sys2Proof.Machine
end

section
/-! The expiries of an axis's timers (R67, R133, R134, R136): the flag of the class, and then its policy. -/

namespace Sys2Proof.Machine

/-! ### A flag that rises, and holds after it -/

/-- What leaves the burst and the axes' states comes before a cut that follows them. -/
theorem burstCut_of_stands {s u t : State} (left : BurstCut s u False) (states : ∀ b, (u.axis b).state = (s.axis b).state)
    (cut : BurstCut u t (BurstAxisMoved u t)) : BurstCut s t (BurstAxisMoved s t) := by
  obtain ⟨burst, -⟩ := left.2 id
  refine (cut.after left).congr ?_
  simp only [BurstAxisMoved, burst, states]

section raised

variable {s : State} {a : AxisId} {ax : Axis} (c : AxisClass)

/-- The state of an expiry when the policy of the class acts: the axis's timer stopped, and its flag set. -/
def State.flagged (s : State) (a : AxisId) (ax : Axis) (c : AxisClass) : State := (s.setAxis a ax).setAxisFlag c a true

@[simp] theorem State.flagged_frame (s : State) (a : AxisId) (ax : Axis) (c : AxisClass) :
    (s.flagged a ax c).profileActive = s.profileActive ∧ (s.flagged a ax c).page = s.page ∧ (s.flagged a ax c).burst = s.burst := by
  simp [State.flagged]

theorem State.axis_flagged (active : s.profileActive = true) (b : AxisId) :
    (s.flagged a ax c).axis b = if b = a then ax.withClass c true else s.axis b := by
  rw [State.flagged, State.axis_setAxisFlag (by simpa using active)]
  by_cases same : b = a <;> simp [same, State.axis_setAxis]

theorem State.flagged_state (state : ax.state = (s.axis a).state) (b : AxisId) : ((s.flagged a ax c).axis b).state = (s.axis b).state := by
  refine (statesStand_setAxisFlag _ _ _ _ b).1.trans ?_
  rw [State.axis_setAxis]
  split
  next same => rw [same, state]
  next => rfl

theorem burstCut_flagged : BurstCut s (s.flagged a ax c) False :=
  (burstCut_setAxisFlag _ _ _ _).after ⟨False.elim, fun _ => ⟨rfl, rfl, rfl, rfl⟩⟩

theorem flagged_raises (active : s.profileActive = true) (clear : ax.classActive c = false) :
    (s.flagged a ax c).isPending .faultRaised = true := by
  have told := tells_setAxisFlag (s.setAxis a ax) c a true
  have moves : (s.setAxis a ax).flagMoves c a true = true := by simp [State.flagMoves, active, clear]
  rw [if_pos moves] at told
  exact told.isPending (by simp [flagEvent])

/-- Under an ACTIVE profile, the policy after a flag that rises: a run of holds. -/
theorem holdRun_policy (active : s.profileActive = true) : HoldRun (s.flagged a ax c) ((s.flagged a ax c).applyAxisPolicy c a) :=
  holdRun_applyAxisPolicy (by simpa using active) c a

theorem burstCut_policy (active : s.profileActive = true) (state : ax.state = (s.axis a).state) :
    BurstCut s ((s.flagged a ax c).applyAxisPolicy c a) (BurstAxisMoved s ((s.flagged a ax c).applyAxisPolicy c a)) :=
  burstCut_of_stands (burstCut_flagged c) (State.flagged_state c state) (holdRun_policy c active).burst

theorem State.axis_policy (active : s.profileActive = true) (b : AxisId) :
    ((s.flagged a ax c).applyAxisPolicy c a).axis b = heldUnder (s.page.policy c.toClass) c.cause a b
      (if b = a then ax.withClass c true else s.axis b) := by
  rw [State.axis_applyAxisPolicy (by simpa using active), State.axis_flagged c active]
  simp

theorem policy_raises (active : s.profileActive = true) (clear : ax.classActive c = false) :
    ((s.flagged a ax c).applyAxisPolicy c a).isPending .faultRaised = true := by
  rw [(holdRun_policy c active).events _ (by simp)]
  exact flagged_raises c active clear

theorem policy_sameDeviceFlags : SameDeviceFlags s ((s.flagged a ax c).applyAxisPolicy c a) := by
  have flagged : (s.flagged a ax c).deviceFlags = s.deviceFlags := (axisRun_setAxisFlag _ _ _ _).device
  exact (sameDeviceFlags_iff _ _).mpr ((axisRun_applyAxisPolicy _ _ _).device.trans flagged)

theorem policy_fields (s : State) (a : AxisId) (ax : Axis) : (s.flagged a ax c).applyAxisPolicy c a = { s with
    axes := ((s.flagged a ax c).applyAxisPolicy c a).axes, burst := ((s.flagged a ax c).applyAxisPolicy c a).burst
    exciteResult := ((s.flagged a ax c).applyAxisPolicy c a).exciteResult, faults := ((s.flagged a ax c).applyAxisPolicy c a).faults
    report := ((s.flagged a ax c).applyAxisPolicy c a).report } := by
  apply State.eq_of_fields <;> simp [State.flagged]

/-- The three policies of a class, by what they make of the records. -/
theorem axis_policies (active : s.profileActive = true) :
    (s.page.policy c.toClass = .continue → ((s.flagged a ax c).applyAxisPolicy c a).axis a = ax.withClass c true ∧
      ∀ b, b ≠ a → ((s.flagged a ax c).applyAxisPolicy c a).axis b = s.axis b) ∧
    (s.page.policy c.toClass = .holdAxis → ((s.flagged a ax c).applyAxisPolicy c a).axis a = heldBy c.cause (ax.withClass c true) ∧
      ∀ b, b ≠ a → ((s.flagged a ax c).applyAxisPolicy c a).axis b = s.axis b) ∧
    (s.page.policy c.toClass = .holdAll → ((s.flagged a ax c).applyAxisPolicy c a).axis a = heldBy c.cause (ax.withClass c true) ∧
      ∀ b, b ≠ a → ((s.flagged a ax c).applyAxisPolicy c a).axis b = heldBy c.cause (s.axis b)) := by
  refine ⟨fun po => ?_, fun po => ?_, fun po => ?_⟩ <;> simp +contextual [State.axis_policy c active, po, heldUnder]

end raised

/-! ### Dwell and refresh-deadline expiries (R134, R136) -/

theorem State.activate_eq_policy {s : State} {a : AxisId} {ax : Axis} {c : AxisClass} (active : s.profileActive = true)
    (clear : ax.classActive c = false) : (s.setAxis a ax).activate c a = (s.flagged a ax c).applyAxisPolicy c a := by
  simp [State.activate, State.flagged, active, clear]

theorem State.dwellExpiry_of_due {s : State} {a : AxisId} (due : (s.axis a).dwellTimer = some 0) :
    s.dwellExpiry a = (s.setAxis a { s.axis a with dwellTimer := none }).activate .limitDwell a := by
  simp [State.dwellExpiry, due, Timer.due]

theorem State.deadlineExpiry_of_due {s : State} {a : AxisId} (due : (s.axis a).deadlineTimer = some 0)
    (pending : (s.axis a).refreshPending = true) :
    s.deadlineExpiry a = (s.setAxis a { s.axis a with deadlineTimer := none }).activate .refreshLate a := by
  simp [State.deadlineExpiry, due, Timer.due, pending]

/-- Settles O18: the class is flagged, and then its policy acts on the records. -/
theorem dwellAndDeadlineExpiriesActByTheirPolicies : Obligations.DwellAndDeadlineExpiriesActByTheirPolicies := by
  intro s a active acts
  refine ⟨fun due clear => ?_, fun due pending clear => ?_⟩
  · have run : exec (.dwellExpiry a) s = .next ((s.flagged a { s.axis a with dwellTimer := none } .limitDwell).applyAxisPolicy .limitDwell a) :=
      congrArg _ ((State.dwellExpiry_of_due due).trans (State.activate_eq_policy active clear))
    exact ⟨_, run, policy_sameDeviceFlags _, policy_raises _ active clear, burstCut_policy _ active rfl, policy_fields _ _ _ _,
      axis_policies .limitDwell active⟩
  · have run : exec (.refreshDeadlineExpiry a) s =
        .next ((s.flagged a { s.axis a with deadlineTimer := none } .refreshLate).applyAxisPolicy .refreshLate a) :=
      congrArg _ ((State.deadlineExpiry_of_due due pending).trans (State.activate_eq_policy active clear))
    exact ⟨_, run, policy_sameDeviceFlags _, policy_raises _ active clear, burstCut_policy _ active rfl, policy_fields _ _ _ _,
      axis_policies .refreshLate active⟩

/-! ### The silence expiry (R67, R133) -/

section silence

variable {s : State} {a : AxisId} (due : (s.axis a).silenceTimer = some 0) (active : s.profileActive = true)
include due active

theorem State.silenceExpiry_of_continue (po : s.page.policy .controllerSilent = .continue) (state : (s.axis a).state = .stabilising) :
    s.silenceExpiry a = (s.flagged a { s.axis a with silenceTimer := none } .controllerSilent).setAxisState a .coasting := by
  have stabilising : (((s.setAxis a { s.axis a with silenceTimer := none }).setAxisFlag .controllerSilent a true).axis a).state =
      .stabilising :=
    (State.flagged_state (ax := { s.axis a with silenceTimer := none }) .controllerSilent rfl a).trans state
  simp [State.silenceExpiry, due, Timer.due, active, po, stabilising, State.flagged]

theorem State.silenceExpiry_of_hold (po : s.page.policy .controllerSilent = .holdAxis ∨ s.page.policy .controllerSilent = .holdAll) :
    s.silenceExpiry a =
      (s.flagged a { s.axis a with silenceTimer := none } .controllerSilent).applyAxisPolicy .controllerSilent a := by
  rcases po with po | po <;> simp [State.silenceExpiry, due, Timer.due, active, po, State.flagged]

end silence

theorem State.silenceExpiry_fields (s : State) (a : AxisId) : s.silenceExpiry a = { s with
    axes := (s.silenceExpiry a).axes, burst := (s.silenceExpiry a).burst, exciteResult := (s.silenceExpiry a).exciteResult
    faults := (s.silenceExpiry a).faults, report := (s.silenceExpiry a).report } := by
  apply State.eq_of_fields <;> simp

theorem silenceExpiry_sameDeviceFlags (s : State) (a : AxisId) : SameDeviceFlags s (s.silenceExpiry a) :=
  (sameDeviceFlags_iff _ _).mpr (axisRun_silenceExpiry s a).device

theorem Page.policy_ne_invalid {p : Page} (ok : p.policyOk = true) (c : FaultClass) : p.policy c ≠ .invalid := fun invalid => by
  have allowed := List.all_eq_true.mp ok c (by cases c <;> simp [FaultClass.all])
  rw [invalid] at allowed
  cases c <;> exact absurd allowed (by decide)

theorem burstCut_setAxisState_moved {s : State} {a : AxisId} {st : AxisState} (change : (s.axis a).state ≠ st) :
    BurstCut s (s.setAxisState a st) (BurstAxisMoved s (s.setAxisState a st)) := by
  refine (burstCut_setAxisState change).congr ?_
  rw [burstOn_iff]
  refine and_congr_right fun _ => ⟨fun moved => ?_, fun on => ?_⟩
  · by_contra other
    exact moved (by rw [State.axis_setAxisState, if_neg other])
  · rw [State.axis_setAxisState, if_pos on]
    exact on ▸ change.symm

/-- Settles O17: CONTROLLER_SILENT is flagged, and then its policy acts, CONTINUE by COASTING. -/
theorem silenceExpiryActsByItsPolicy : Obligations.SilenceExpiryActsByItsPolicy := by
  intro s a due active ok state silent
  let stopped : Axis := { s.axis a with silenceTimer := none }
  have raises : (s.axis a).silentActive = false → (s.flagged a stopped .controllerSilent).isPending .faultRaised = true := fun clear =>
    flagged_raises .controllerSilent active clear
  have flagged : ∀ b, (s.flagged a stopped .controllerSilent).axis b = if b = a then silent else s.axis b :=
    State.axis_flagged .controllerSilent active
  refine ⟨s.silenceExpiry a, rfl, silenceExpiry_sameDeviceFlags s a, State.silenceExpiry_fields s a, ?_⟩
  by_cases continues : s.page.policy .controllerSilent = .continue
  · rw [State.silenceExpiry_of_continue due active continues state]
    have change : ((s.flagged a stopped .controllerSilent).axis a).state ≠ .coasting := by
      rw [flagged, if_pos rfl, show silent.state = .stabilising from state]
      decide
    have told := reports_setAxisState change
    refine ⟨fun clear => ?_, told.isPending (by simp), ?_, fun _ => ⟨?_, fun b other => ?_⟩, by simp [continues], by simp [continues]⟩
    · rw [told.isPending_of_notMem (by simp)]
      exact raises clear
    · exact burstCut_of_stands (burstCut_flagged _) (State.flagged_state (ax := stopped) _ rfl) (burstCut_setAxisState_moved change)
    · rw [State.axis_setAxisState, if_pos rfl, flagged, if_pos rfl]
    · rw [State.axis_setAxisState, if_neg other, flagged, if_neg other]
  · have holds : s.page.policy .controllerSilent = .holdAxis ∨ s.page.policy .controllerSilent = .holdAll := by
      have valid := Page.policy_ne_invalid ok .controllerSilent
      revert continues valid
      cases s.page.policy .controllerSilent <;> simp
    rw [State.silenceExpiry_of_hold due active holds]
    have policies := axis_policies (s := s) (a := a) (ax := stopped) .controllerSilent active
    have moved : StateMoved (s.flagged a stopped .controllerSilent)
        ((s.flagged a stopped .controllerSilent).applyAxisPolicy .controllerSilent a) := by
      refine ⟨a, ?_⟩
      have held : (heldBy .controllerSilent silent).state = .held :=
        (heldBy_of_composes (by rw [show silent.state = .stabilising from state]; rfl) _).1
      have here : ((s.flagged a stopped .controllerSilent).applyAxisPolicy .controllerSilent a).axis a = heldBy .controllerSilent silent :=
        holds.elim (fun po => (policies.2.1 po).1) fun po => (policies.2.2 po).1
      rw [here, held, flagged, if_pos rfl, show silent.state = .stabilising from state]
      decide
    have run := holdRun_policy (s := s) (a := a) (ax := stopped) .controllerSilent active
    refine ⟨fun clear => ?_, run.moved.mpr (.inr moved), burstCut_policy (ax := stopped) _ active rfl, fun po => (continues po).elim, policies.2⟩
    rw [run.events _ (by simp)]
    exact raises clear

end Sys2Proof.Machine
end

section
/-! A change of the selected source (R14 to R16): what it reports, the capture and the burst it aborts, and the judgment of the source classes
that follows (R132, R139, R140). -/

namespace Sys2Proof.Machine

/-! ### The capture, cut or left -/

theorem CaptureCut.after {s t u : State} {cut : Prop} (k : CaptureCut t u cut) (h : CaptureCut s t False) : CaptureCut s u cut := by
  obtain ⟨capture, result, done, word⟩ := h.2 id
  obtain ⟨isCut, left⟩ := k
  rw [capture] at isCut left
  rw [result, done, word] at left
  exact ⟨isCut, left⟩

theorem CaptureCut.before {s t u : State} {cut : Prop} (h : CaptureCut s t cut) (k : CaptureCut t u False) : CaptureCut s u cut := by
  obtain ⟨capture, result, done, word⟩ := k.2 id
  unfold CaptureCut
  rw [capture, result, done, word]
  exact h

theorem CaptureCut.congr {s t : State} {cut cut' : Prop} (h : CaptureCut s t cut) (same : cut' ↔ cut) : CaptureCut s t cut' :=
  (propext same) ▸ h

theorem captureCut_of_tells {s t : State} {es : List Event} {must may : List ReportWord} (told : Tells s t es must may)
    (event : Event.zeroDone ∉ es) (word : ReportWord.zeroResult ∉ must ++ may) (capture : t.capture = s.capture)
    (result : t.zeroResult = s.zeroResult) : CaptureCut s t False :=
  ⟨False.elim, fun _ => ⟨capture, result, told.isPending_of_notMem event, told.isDirty_of_notMem word (by decide)⟩⟩

theorem reports_endCapture (s : State) (c : Capture) (r : ZeroResult) : Reports s (s.endCapture c r) [.zeroDone] [.zeroResult] :=
  ((reports_mark _ _).trans (reports_raise _ _)).after rfl

/-! ### What a change reports at most -/

/-- From `s` to `t` no event outside `es` is raised or cleared, and no word outside `ws` changes its mark. -/
def ReportsWithin (s t : State) (es : List Event) (ws : List ReportWord) : Prop :=
  (∀ e, e ∉ es → t.isPending e = s.isPending e) ∧ ∀ w, w ∉ ws → t.isDirty w = s.isDirty w

theorem ReportsWithin.comp {s t u : State} {es : List Event} {ws : List ReportWord} (k : ReportsWithin t u es ws)
    (h : ReportsWithin s t es ws) : ReportsWithin s u es ws :=
  ⟨fun e out => (k.1 e out).trans (h.1 e out), fun w out => (k.2 w out).trans (h.2 w out)⟩

theorem ReportsWithin.mono {s t : State} {es es' : List Event} {ws ws' : List ReportWord} (h : ReportsWithin s t es ws)
    (events : es ⊆ es') (words : ws ⊆ ws') : ReportsWithin s t es' ws' :=
  ⟨fun e out => h.1 e fun mem => out (events mem), fun w out => h.2 w fun mem => out (words mem)⟩

theorem ReportsWithin.of_report {s t : State} (same : t.report = s.report) (es : List Event) (ws : List ReportWord) :
    ReportsWithin s t es ws := ⟨fun e _ => State.isPending_congr same e, fun w _ => State.isDirty_congr same w⟩

theorem Tells.within {s t : State} {es : List Event} {must may : List ReportWord} (h : Tells s t es must may) :
    ReportsWithin s t es (.eventPending :: (must ++ may)) :=
  ⟨fun _ out => h.isPending_of_notMem out, fun _ out => h.isDirty_of_notMem (fun mem => out (List.mem_cons_of_mem _ mem))
    fun own => out (own ▸ List.mem_cons_self)⟩

theorem HoldRun.within {s t : State} (h : HoldRun s t) : ReportsWithin s t [.axisState, .faultCleared, .exciteDone] heldWords :=
  ⟨h.events, h.words⟩

/-! ### The abort of a capture and of a burst -/

theorem State.abortCapture_of_idle {s : State} (idle : s.capture.state = .idle) : s.abortCapture = s := by simp [State.abortCapture, idle]

theorem State.abortCapture_of_running {s : State} (running : s.capture.state = .running) :
    s.abortCapture = s.endCapture s.capture (.source s.capture.source) := by
  simp [State.abortCapture, running]

theorem reportsWithin_abortCapture (s : State) : ReportsWithin s s.abortCapture [.zeroDone] [.eventPending, .zeroResult] := by
  cases state : s.capture.state with
  | idle => rw [State.abortCapture_of_idle state]; exact .of_report rfl _ _
  | running => rw [State.abortCapture_of_running state]; exact (reports_endCapture _ _ _).tells.within

theorem captureCut_abortCapture (s : State) : CaptureCut s s.abortCapture (s.capture.state = .running) := by
  cases state : s.capture.state with
  | idle =>
    rw [State.abortCapture_of_idle state]
    exact ⟨by simp, fun _ => ⟨rfl, rfl, rfl, rfl⟩⟩
  | running =>
    rw [State.abortCapture_of_running state]
    have told := reports_endCapture s s.capture (.source s.capture.source)
    exact ⟨fun _ => ⟨by simp [State.endCapture], by simp [State.endCapture], told.isPending (by simp), told.isDirty (by simp)⟩, by simp⟩

theorem State.abortBurst_of_idle {s : State} (idle : s.burst.state = .idle) : s.abortBurst = s := by simp [State.abortBurst, idle]

theorem State.abortBurst_of_running {s : State} (running : s.burst.state = .running) :
    s.abortBurst = s.endBurst s.burst (.aborted s.burst.axis) := by
  simp [State.abortBurst, running]

theorem reportsWithin_abortBurst (s : State) : ReportsWithin s s.abortBurst [.exciteDone] [.eventPending, .exciteResult] := by
  cases state : s.burst.state with
  | idle => rw [State.abortBurst_of_idle state]; exact .of_report rfl _ _
  | running => rw [State.abortBurst_of_running state]; exact (reports_endBurst _ _ _).tells.within

theorem burstCut_abortBurst (s : State) : BurstCut s s.abortBurst (s.burst.state = .running) := by
  cases state : s.burst.state with
  | idle =>
    rw [State.abortBurst_of_idle state]
    exact ⟨by simp, fun _ => ⟨rfl, rfl, rfl, rfl⟩⟩
  | running =>
    rw [State.abortBurst_of_running state]
    exact (burstCut_endBurst rfl).congr (by simp)

/-! ### The selection as it changes -/

/-- The state of a change of the selection when the capture is aborted. -/
def State.selecting (s : State) (new : Option Source) : State := ({ s with selected := new }.raise .sourceSwitch).mark .sourceState

theorem State.switched_eq (s : State) (new : Option Source) :
    s.switched new = if new = none then (s.selecting new).abortCapture.abortBurst else (s.selecting new).abortCapture := rfl

theorem reports_selecting (s : State) (new : Option Source) : Reports s (s.selecting new) [.sourceSwitch] [.sourceState] :=
  ((reports_raise _ _).trans (reports_mark _ _)).after rfl

/-- The events of a change of the selection, before the source classes are judged. -/
def switchEvents : List Event := [.sourceSwitch, .zeroDone, .exciteDone]

/-- The words that a change of the selection marks, before the source classes are judged. -/
def switchWords : List ReportWord := [.eventPending, .sourceState, .zeroResult, .exciteResult]

theorem reportsWithin_switched (s : State) (new : Option Source) : ReportsWithin s (s.switched new) switchEvents switchWords := by
  have selecting : ReportsWithin s (s.selecting new) switchEvents switchWords :=
    (reports_selecting s new).tells.within.mono (by simp [switchEvents]) (by simp [switchWords])
  have aborted : ReportsWithin s (s.selecting new).abortCapture switchEvents switchWords :=
    ((reportsWithin_abortCapture _).mono (by simp [switchEvents]) (by simp [switchWords])).comp selecting
  rw [State.switched_eq]
  split
  · exact ((reportsWithin_abortBurst _).mono (by simp [switchEvents]) (by simp [switchWords])).comp aborted
  · exact aborted

/-- SOURCE_SWITCH is raised and SOURCE_STATE marked. -/
theorem switched_tells (s : State) (new : Option Source) :
    (s.switched new).isPending .sourceSwitch = true ∧ (s.switched new).isDirty .sourceState = true := by
  have told := reports_selecting s new
  have capture := reportsWithin_abortCapture (s.selecting new)
  have burst := reportsWithin_abortBurst (s.selecting new).abortCapture
  have aborted : (s.selecting new).abortCapture.isPending .sourceSwitch = true ∧ (s.selecting new).abortCapture.isDirty .sourceState = true :=
    ⟨(capture.1 _ (by simp)).trans (told.isPending (by simp)), (capture.2 _ (by simp)).trans (told.isDirty (by simp))⟩
  rw [State.switched_eq]
  split
  · exact ⟨(burst.1 _ (by simp)).trans aborted.1, (burst.2 _ (by simp)).trans aborted.2⟩
  · exact aborted

theorem captureCut_switched (s : State) (new : Option Source) : CaptureCut s (s.switched new) (s.capture.state = .running) := by
  have selecting : CaptureCut s (s.selecting new) False :=
    captureCut_of_tells (reports_selecting s new).tells (by simp) (by simp) (by simp [State.selecting]) (by simp [State.selecting])
  have aborted := (captureCut_abortCapture (s.selecting new)).after selecting
  have same : (s.selecting new).capture = s.capture := by simp [State.selecting]
  rw [same] at aborted
  have burst := reportsWithin_abortBurst (s.selecting new).abortCapture
  rw [State.switched_eq]
  split
  · exact aborted.before ⟨False.elim, fun _ => ⟨by simp, by simp, burst.1 _ (by simp), burst.2 _ (by simp)⟩⟩
  · exact aborted

theorem burstCut_switched (s : State) (new : Option Source) : BurstCut s (s.switched new) (s.burst.state = .running ∧ new = none) := by
  have selecting : BurstCut s (s.selecting new) False :=
    burstCut_of_reports (reports_selecting s new) (by simp) (by simp) (by simp [State.selecting]) (by simp [State.selecting])
  have capture := reportsWithin_abortCapture (s.selecting new)
  have aborted : BurstCut s (s.selecting new).abortCapture False :=
    BurstCut.after ⟨False.elim, fun _ => ⟨by simp, by simp, capture.1 _ (by simp), capture.2 _ (by simp)⟩⟩ selecting
  have same : (s.selecting new).abortCapture.burst = s.burst := by simp [State.selecting]
  rw [State.switched_eq]
  split
  next none =>
    have cut := (burstCut_abortBurst (s.selecting new).abortCapture).after aborted
    rw [same] at cut
    exact cut.congr (by simp [none])
  next some => exact aborted.congr (by simp [some])

/-! ### The judgment of the source classes -/

/-- The event of a device flag that changes. -/
def flagEvents (old new : Bool) : List Event := if old = new then [] else [flagEvent new]

@[simp] theorem faultRaised_mem_flagEvents (old new : Bool) : Event.faultRaised ∈ flagEvents old new ↔ new = true ∧ old = false := by
  cases old <;> cases new <;> simp [flagEvents, flagEvent]

@[simp] theorem faultCleared_mem_flagEvents (old new : Bool) : Event.faultCleared ∈ flagEvents old new ↔ new = false ∧ old = true := by
  cases old <;> cases new <;> simp [flagEvents, flagEvent]

theorem mem_flagEvents_cases {old new : Bool} {e : Event} (mem : e ∈ flagEvents old new) : e = .faultRaised ∨ e = .faultCleared := by
  revert mem
  cases old <;> cases new <;> simp +contextual [flagEvents, flagEvent]

theorem tells_reportFlag (s : State) (old new : Bool) : Tells s (s.reportFlag old new) (flagEvents old new) [] [.activeFaults] :=
  ⟨_, by simp, by split <;> simp, reports_reportFlag s old new⟩

theorem tells_setSourceFlags (s : State) (lost fallback : Bool) :
    Tells s (s.setSourceFlags lost fallback) (flagEvents s.faults.sourceLost lost ++ flagEvents s.faults.sourceFallback fallback) []
      [.activeFaults, .headline] := by
  have flags := (tells_reportFlag { s with faults := { s.faults with sourceLost := lost, sourceFallback := fallback } }
    s.faults.sourceLost lost).trans (tells_reportFlag _ s.faults.sourceFallback fallback)
  have judged := (flags.trans (tells_judgeHeadline _)).after (s := s) rfl
  exact judged.weaken (by simp) (by simp) (by simp)

/-- The flags as the selection gives them. -/
def State.sourceFlagged (s : State) : State := s.setSourceFlags s.sourceClasses.1 s.sourceClasses.2

theorem holdRun_judgeSources {s : State} (active : s.profileActive = true) : HoldRun s.sourceFlagged s.judgeSources := by
  have flagged : s.sourceFlagged.profileActive = true := by simpa [State.sourceFlagged] using active
  have lost : HoldRun s.sourceFlagged (if s.sourceClasses.1 && !s.faults.sourceLost then s.sourceFlagged.applyDevicePolicy .sourceLost
      else s.sourceFlagged) := by
    split
    · exact holdRun_applyDevicePolicy flagged _
    · exact .refl _
  have active' : (if s.sourceClasses.1 && !s.faults.sourceLost then s.sourceFlagged.applyDevicePolicy .sourceLost
      else s.sourceFlagged).profileActive = true := by split <;> simp [flagged]
  unfold State.judgeSources
  simp only [active, Bool.not_true, Bool.false_eq_true, if_false]
  rw [← State.sourceFlagged]
  split
  · exact (holdRun_applyDevicePolicy active' _).comp lost
  · exact lost

end Sys2Proof.Machine
end

section
/-! The source classes judged (R132, R139, R140), and the commands that change the selection: a stale expiry (R14) and SOURCE_RETURN (R15). -/

namespace Sys2Proof.Machine

/-! ### The judgment, whole -/

/-- What the judgment of the source classes makes of the axes, the flags, the burst and the report. -/
structure JudgedRun (s t : State) : Prop where
  within : ReportsWithin s t [.faultRaised, .faultCleared, .axisState, .exciteDone] heldWords
  raised : t.isPending .faultRaised = true ↔ s.isPending .faultRaised = true ∨
    (t.faults.sourceLost = true ∧ s.faults.sourceLost = false) ∨ (t.faults.sourceFallback = true ∧ s.faults.sourceFallback = false)
  cleared : t.isPending .faultCleared = true ↔ s.isPending .faultCleared = true ∨
    (t.faults.sourceLost = false ∧ s.faults.sourceLost = true) ∨ (t.faults.sourceFallback = false ∧ s.faults.sourceFallback = true) ∨
      FlagEnded s t
  moved : t.isPending .axisState = true ↔ s.isPending .axisState = true ∨ StateMoved s t
  burst : BurstCut s t (BurstAxisMoved s t)
  flags : t.faults.sourceLost = decide (s.selected = none) ∧
    t.faults.sourceFallback = decide (s.selected = some (otherSource s.page.primary)) ∧ t.faults.frameLost = s.faults.frameLost

theorem judgeSources_flags {s : State} (active : s.profileActive = true) :
    s.judgeSources.faults.sourceLost = decide (s.selected = none) ∧
      s.judgeSources.faults.sourceFallback = decide (s.selected = some (otherSource s.page.primary)) ∧
      s.judgeSources.faults.frameLost = s.faults.frameLost := by
  have flags := State.judgeSources_deviceFlags active
  simpa only [State.deviceFlags, Prod.mk.injEq] using flags

theorem tells_sourceFlagged (s : State) :
    Tells s s.sourceFlagged (flagEvents s.faults.sourceLost (decide (s.selected = none)) ++
      flagEvents s.faults.sourceFallback (decide (s.selected = some (otherSource s.page.primary)))) [] [.activeFaults, .headline] := by
  have told := tells_setSourceFlags s s.sourceClasses.1 s.sourceClasses.2
  rwa [← State.sourceFlagged, State.sourceClasses_eq] at told

theorem judgedRun_judgeSources {s : State} (active : s.profileActive = true) : JudgedRun s s.judgeSources := by
  have told := tells_sourceFlagged s
  have run := holdRun_judgeSources active
  have axes : ∀ b, s.sourceFlagged.axis b = s.axis b := fun b => s.axis_setSourceFlags _ _ b
  obtain ⟨lost, fallback, frame⟩ := judgeSources_flags active
  have left : BurstCut s s.sourceFlagged False := burstCut_of_tells told
    (fun mem => by rcases List.mem_append.mp mem with mem | mem <;> cases mem_flagEvents_cases mem <;> contradiction)
    (by simp) (by simp [State.sourceFlagged]) (by simp [State.sourceFlagged])
  refine ⟨⟨fun e out => ?_, fun w out => ?_⟩, ?_, ?_, ?_, burstCut_of_stands left (fun b => by rw [axes]) run.burst, lost, fallback, frame⟩
  · rw [run.events e fun mem => out (by simp at mem ⊢; tauto)]
    refine told.isPending_of_notMem fun mem => out ?_
    rcases List.mem_append.mp mem with mem | mem <;> rcases mem_flagEvents_cases mem with rfl | rfl <;> simp
  · rw [run.words w out]
    exact told.isDirty_of_notMem (fun mem => out (by simp at mem; rcases mem with rfl | rfl <;> simp [heldWords, faultWords]))
      fun own => out (own ▸ by simp [heldWords, faultWords])
  · rw [run.events _ (by simp), told.raises .faultRaised, lost, fallback]
    simp
  · rw [run.cleared, told.raises .faultCleared, lost, fallback]
    simp [FlagEnded, axes, or_assoc]
  · have same : s.sourceFlagged.isPending .axisState = s.isPending .axisState := told.isPending_of_notMem fun mem => by
      rcases List.mem_append.mp mem with mem | mem <;> cases mem_flagEvents_cases mem <;> contradiction
    rw [run.moved, same]
    simp [StateMoved, axes]

/-! ### A change of the selection, whole -/

/-- A cut that leaves the axes' states, and then one that follows the burst's axis. -/
theorem burstCut_or {s v t : State} {cut : Prop} (first : BurstCut s v cut) (states : ∀ b, (v.axis b).state = (s.axis b).state)
    (second : BurstCut v t (BurstAxisMoved v t)) : BurstCut s t (cut ∨ BurstAxisMoved s t) := by
  by_cases isCut : cut
  · obtain ⟨idle, -⟩ := first.1 isCut
    have still : ¬ BurstAxisMoved v t := fun moved => by simp [moved.1] at idle
    exact (first.before (second.congr (by simp [still]))).congr (by simp [isCut])
  · exact (burstCut_of_stands (first.congr (by simp [isCut])) states second).congr (by simp [isCut])

/-- What a change of the selection makes of the capture, the axes, the flags, the burst and the report. -/
structure SourceMoved (s : State) (new : Option Source) (t : State) : Prop where
  switch : t.isPending .sourceSwitch = true
  shown : t.isDirty .sourceState = true
  within : ReportsWithin s t (switchEvents ++ [.faultRaised, .faultCleared, .axisState]) (.sourceState :: .zeroResult :: heldWords)
  capture : CaptureCut s t (s.capture.state = .running)
  burst : BurstCut s t ((s.burst.state = .running ∧ new = none) ∨ BurstAxisMoved s t)
  raised : t.isPending .faultRaised = true ↔ s.isPending .faultRaised = true ∨
    (t.faults.sourceLost = true ∧ s.faults.sourceLost = false) ∨ (t.faults.sourceFallback = true ∧ s.faults.sourceFallback = false)
  cleared : t.isPending .faultCleared = true ↔ s.isPending .faultCleared = true ∨
    (t.faults.sourceLost = false ∧ s.faults.sourceLost = true) ∨ (t.faults.sourceFallback = false ∧ s.faults.sourceFallback = true) ∨
      FlagEnded s t
  moved : t.isPending .axisState = true ↔ s.isPending .axisState = true ∨ StateMoved s t
  flags : t.faults.sourceLost = decide (new = none) ∧ t.faults.sourceFallback = decide (new = some (otherSource s.page.primary)) ∧
    t.faults.frameLost = s.faults.frameLost

theorem sourceMoved_select {s : State} (active : s.profileActive = true) {new : Option Source} (change : s.selected ≠ new) :
    SourceMoved s new (s.select new) := by
  rw [State.select_of_ne change]
  have active' : (s.switched new).profileActive = true := by simpa using active
  have run := judgedRun_judgeSources active'
  obtain ⟨-, faults, -, page, -, selected, -⟩ := s.switched_frame new
  have axis : ∀ b, (s.switched new).axis b = s.axis b := fun b => State.axis_congr (by simp) b
  obtain ⟨switch, shown⟩ := switched_tells s new
  have before := reportsWithin_switched s new
  refine ⟨(run.within.1 _ (by simp)).trans switch, (run.within.2 _ (by simp [heldWords, faultWords])).trans shown, ?_, ?_, ?_, ?_, ?_, ?_, ?_⟩
  · exact (run.within.mono (by simp [switchEvents]) (by simp)).comp
      (before.mono (by simp [switchEvents]) (by simp [switchWords, heldWords, faultWords]))
  · exact (captureCut_switched s new).before ⟨False.elim, fun _ =>
      ⟨by simp, by simp, run.within.1 _ (by simp), run.within.2 _ (by simp [heldWords, faultWords])⟩⟩
  · exact burstCut_or (burstCut_switched s new) (fun b => by rw [axis]) run.burst
  · rw [run.raised, before.1 _ (by simp [switchEvents]), faults]
  · rw [run.cleared, before.1 _ (by simp [switchEvents]), faults]
    simp [FlagEnded, axis]
  · rw [run.moved, before.1 _ (by simp [switchEvents])]
    simp [StateMoved, axis]
  · have flags := run.flags
    rwa [selected, page, faults] at flags

/-- A change of the selection writes the selection, the capture, the burst, the axes, the flags and the report alone. -/
theorem State.select_fields (s : State) (new : Option Source) : s.select new = { s with
    selected := new, capture := (s.select new).capture, zeroResult := (s.select new).zeroResult, burst := (s.select new).burst
    exciteResult := (s.select new).exciteResult, axes := (s.select new).axes, faults := (s.select new).faults
    report := (s.select new).report } := by
  apply State.eq_of_fields <;> simp [State.select_selected]

/-! ### The stale expiry (R11, R14) -/

/-- The state of a stale expiry when the selection is reviewed. -/
def State.staled (s : State) (src : Source) : State :=
  (s.setLink src { s.link src with state := .stale, staleTimer := none }).mark .sourceState

theorem reports_staled (s : State) (src : Source) : Reports s (s.staled src) [] [.sourceState] := (reports_mark _ _).after rfl

theorem State.staleExpiry_of_due {s : State} {src : Source} (due : (s.link src).staleTimer = some 0) :
    s.staleExpiry src = if s.selected = some src then (s.staled src).select ((s.staled src).fallbackFrom src) else s.staled src := by
  simp [State.staleExpiry, due, Timer.due, State.staled]

theorem State.staled_fallbackFrom (s : State) (src : Source) :
    (s.staled src).fallbackFrom src =
      if (s.link (otherSource src)).state = .live ∧ (otherSource src = s.page.primary ∨ s.page.fallback = true) then some (otherSource src)
      else none := by
  have link : (s.staled src).link (otherSource src) = s.link (otherSource src) :=
    State.link_setLink_ne s _ (by cases src <;> decide)
  have page : (s.staled src).page = s.page := rfl
  simp only [State.fallbackFrom, State.isLive, link, page]
  simp

/-- Settles O12: the source is STALE, and where it was selected the selection changes. -/
theorem staleExpiryMovesTheSelection : Obligations.StaleExpiryMovesTheSelection := by
  intro s src due stale other new
  have run : exec (.staleExpiry src) s = .next (s.staleExpiry src) := rfl
  rw [State.staleExpiry_of_due due, State.staled_fallbackFrom] at run
  refine ⟨fun elsewhere => ?_, fun selected active => ?_⟩
  · rw [if_neg elsewhere] at run
    exact ⟨_, run, rfl, reports_staled s src⟩
  · rw [if_pos selected] at run
    have change : (s.staled src).selected ≠ new := by
      change s.selected ≠ new
      rw [selected]
      simp only [new]
      split
      · cases src <;> simp [other, otherSource]
      · simp
    have moved := sourceMoved_select (s := s.staled src) active change
    have told := reports_staled s src
    have flags := moved.flags
    refine ⟨_, run, ?_, ?_, ?_, moved.switch, moved.shown, ?_, ?_, ?_, flags.1, flags.2.1, fun a => ?_⟩
    · exact State.select_fields (s.staled src) new
    · exact moved.capture.after (captureCut_of_tells told.tells (by simp) (by simp) rfl rfl)
    · exact moved.burst.after (burstCut_of_reports told (by simp) (by simp) rfl rfl)
    · exact moved.raised
    · exact moved.cleared
    · exact moved.moved
    · exact State.axis_select (s := s.staled src) active change a

/-! ### SOURCE_RETURN (R15) -/

theorem sourceReturnCommand_of_selected {s : State} (selected : s.selected = some s.page.primary) :
    sourceReturnCommand s = (.wrongState, s) := by
  simp [sourceReturnCommand, selected]

theorem sourceReturnCommand_of_dead {s : State} (elsewhere : s.selected ≠ some s.page.primary)
    (dead : (s.link s.page.primary).state ≠ .live) : sourceReturnCommand s = (.noSource, s) := by
  simp [sourceReturnCommand, elsewhere, State.isLive, dead]

theorem sourceReturnCommand_of_live {s : State} (elsewhere : s.selected ≠ some s.page.primary)
    (live : (s.link s.page.primary).state = .live) : sourceReturnCommand s = (.done, s.select (some s.page.primary)) := by
  simp [sourceReturnCommand, elsewhere, State.isLive, live]

section primary

variable {s : State} {p : Source} (active : s.profileActive = true) (isPrimary : s.page.primary = p) (change : s.selected ≠ some p)
include active isPrimary change

/-- The selection of the primary activates no class, so it holds no axis. -/
theorem select_primary_axes : (s.select (some p)).axes = s.axes := by
  refine State.axes_eq fun b => ?_
  have apart : p ≠ otherSource p := by cases p <;> decide
  rw [State.axis_select active change]
  simp [sourceHolds, isPrimary, apart]

/-- A burst runs on past the selection of the primary. -/
theorem burstCut_select_primary : BurstCut s (s.select (some p)) False := by
  refine (sourceMoved_select active change).burst.congr ?_
  simp [BurstAxisMoved, State.axis_congr (select_primary_axes active isPrimary change)]

theorem select_primary_fields : s.select (some p) = { s with
    selected := some p, capture := (s.select (some p)).capture, zeroResult := (s.select (some p)).zeroResult
    faults := (s.select (some p)).faults, report := (s.select (some p)).report } := by
  obtain ⟨burst, result, -⟩ := (burstCut_select_primary active isPrimary change).2 id
  apply State.eq_of_fields <;> simp [State.select_selected, select_primary_axes active isPrimary change, burst, result]

end primary

theorem captureCut_reportCommand (s : State) (code : Byte) (r : CmdResult) : CaptureCut s (s.reportCommand code r) False :=
  captureCut_of_tells (reports_reportCommand s code r).tells (by simp) (by simp) (by simp) (by simp)

theorem reportCommand_faults (s : State) (code : Byte) (r : CmdResult) : (s.reportCommand code r).faults = s.faults := by simp

/-- Settles O31: SOURCE_RETURN is a change of the selection to the LIVE primary. -/
theorem sourceReturnSelectsThePrimary : Obligations.SourceReturnSelectsThePrimary := by
  intro s operand ready primary
  have run : ∀ r t, sourceReturnCommand (commandSeen s 8 operand) = (r, t) → exec (.sourceReturn operand) s = .next (t.reportCommand 8 r) :=
    fun r t owner => by
      have offered := ready.offerCommand (code := 8) (operand := operand) (by decide) fun axis => absurd axis (by decide)
      have owned : ownerCommand (8 : Byte).toNat (axisOperand operand) (commandSeen s 8 operand) = (r, t) := owner
      rw [owned] at offered
      exact congrArg _ offered
  have active : (commandSeen s 8 operand).profileActive = true := ready.2.2
  refine ⟨fun selected => ⟨_, run _ _ (sourceReturnCommand_of_selected (s := commandSeen s 8 operand) selected),
      refusedWith_reportCommand _ _ _ _⟩,
    fun elsewhere dead => ⟨_, run _ _ (sourceReturnCommand_of_dead (s := commandSeen s 8 operand) elsewhere dead),
      refusedWith_reportCommand _ _ _ _⟩, fun elsewhere live => ?_⟩
  have executed : exec (.sourceReturn operand) s = .next (((commandSeen s 8 operand).select (some primary)).reportCommand 8 .done) :=
    run _ _ (sourceReturnCommand_of_live (s := commandSeen s 8 operand) elsewhere live)
  have moved := sourceMoved_select (s := commandSeen s 8 operand) active elsewhere
  have told := reports_reportCommand ((commandSeen s 8 operand).select (some primary)) 8 .done
  obtain ⟨lost, fallback, frame⟩ := moved.flags
  have apart : primary ≠ otherSource primary := by cases primary <;> decide
  have faults := reportCommand_faults ((commandSeen s 8 operand).select (some primary)) 8 .done
  refine ⟨_, executed, ?_, ?_, ?_, ?_, ?_, ?_, ?_, told.isPending (by simp)⟩
  · rw [State.reportCommand_eq_setReport, select_primary_fields (p := primary) active rfl elsewhere]
    rfl
  · have before : CaptureCut s (commandSeen s 8 operand) False := ⟨False.elim, fun _ => ⟨rfl, rfl, rfl, rfl⟩⟩
    exact (moved.capture.after before).before (captureCut_reportCommand _ _ _)
  · rw [faults, lost]
    rfl
  · rw [faults, fallback]
    exact decide_eq_false fun same => apart (Option.some.inj same)
  · rw [faults, frame]
    rfl
  · exact (told.isPending_of_notMem (by simp)).trans moved.switch
  · exact (told.isDirty_of_notMem (by simp) (by simp)).trans moved.shown

end Sys2Proof.Machine
end

section
/-! START (R63, R64), RELEASE (R74, R75) and the intent writes (R91): the axis becomes STABILISING, where no burst is in flight on it, and the
last two compose. -/

namespace Sys2Proof.Machine

/-! ### An axis that a burst is not on -/

theorem BurstOnStabilising.burstOn_eq_false {s : State} (h : BurstOnStabilising s) {a : AxisId} (elsewhere : (s.axis a).state ≠ .stabilising) :
    burstOn s a = false := by
  rw [← Bool.not_eq_true, burstOn_iff]
  rintro ⟨running, rfl⟩
  exact elsewhere (h.1 running).1

theorem State.excitation_of_burstOn_eq_false {s : State} {a : AxisId} (other : burstOn s a = false) : s.excitation a = 0 := by
  have none := mt (burstOn_iff s a).mpr (by simp [other])
  simp [State.excitation, none]

theorem refreshMarked_withState (ax : Axis) (st : AxisState) : { refreshMarked ax with state := st } = refreshMarked { ax with state := st } := by
  unfold refreshMarked
  split <;> rfl

theorem reports_markAxisWords (s : State) (a : AxisId) : Reports s (s.markAxisWords a) [] [.output a, .correction a, .axisStatus a] :=
  ((reports_mark _ _).trans (reports_mark _ _)).trans (reports_mark _ _)

theorem burstCut_markAxisWords (s : State) (a : AxisId) : BurstCut s (s.markAxisWords a) False :=
  burstCut_of_reports (reports_markAxisWords s a) (by simp) (by simp) (by simp) (by simp)

/-- A change of the state of an axis that no burst is on reports alone. -/
theorem reports_setAxisState_of_free {s : State} {a : AxisId} {st : AxisState} (change : (s.axis a).state ≠ st) (free : burstOn s a = false) :
    Reports s (s.setAxisState a st) [.axisState] [.axisStatus a] := by
  have told := reports_setAxisState change
  rw [free] at told
  exact told

theorem burstCut_setAxisState_of_free {s : State} {a : AxisId} (st : AxisState) (free : burstOn s a = false) :
    BurstCut s (s.setAxisState a st) False := by
  by_cases change : (s.axis a).state = st
  · rw [setAxisState_same change]
    exact ⟨False.elim, fun _ => ⟨rfl, rfl, rfl, rfl⟩⟩
  · exact (burstCut_setAxisState change).congr (by simp [free])

/-! ### START (R63, R64) -/

/-- The state of a START when the axis's state changes. -/
def State.starting (s : State) (a : AxisId) : State := (s.setAxis a (startedAxis s.page a (s.axis a))).markRefresh a

theorem State.startAxis_eq (s : State) (a : AxisId) : s.startAxis a = ((s.starting a).setAxisState a .stabilising).markAxisWords a := rfl

theorem State.starting_report (s : State) (a : AxisId) : (s.starting a).report = s.report := markRefresh_report _ _

theorem State.starting_burst (s : State) (a : AxisId) : burstOn (s.starting a) a = burstOn s a := by simp [burstOn, State.starting]

theorem State.starting_state (s : State) (a : AxisId) : ((s.starting a).axis a).state = (s.axis a).state := by
  rw [State.starting, State.axis_markRefresh, if_pos rfl, (refreshMarked_state _).1]
  simp [startedAxis]

section startAxis

variable {s : State} {a : AxisId} (free : burstOn s a = false)
include free

theorem reports_startAxis (off : (s.axis a).state = .off) :
    Reports s (s.startAxis a) [.axisState] [.axisStatus a, .output a, .correction a] := by
  have change : ((s.starting a).axis a).state ≠ .stabilising := by rw [State.starting_state, off]; decide
  have told := ((reports_setAxisState_of_free change (by rw [State.starting_burst, free])).trans (reports_markAxisWords _ a)).after
    (State.starting_report s a)
  rw [← State.startAxis_eq] at told
  exact told.congr (by simp) (by simp; tauto)

theorem burstCut_startAxis : BurstCut s (s.startAxis a) False := by
  have marked : BurstCut s (s.starting a) False := by
    refine ⟨False.elim, fun _ => ⟨?_, ?_, State.isPending_congr (s.starting_report a) _, State.isDirty_congr (s.starting_report a) _⟩⟩ <;>
      simp [State.starting]
  rw [State.startAxis_eq]
  exact ((burstCut_markAxisWords _ a).after (burstCut_setAxisState_of_free _ (by rw [State.starting_burst, free]))).after marked

theorem State.startAxis_fields : s.startAxis a = { s with
    axes := withAxis s a { refreshMarked (startedAxis s.page a (s.axis a)) with state := .stabilising }
    report := (s.startAxis a).report } := by
  have axes := State.axes_eq_withAxis (State.axis_startAxis s a)
  obtain ⟨burst, result, -⟩ := (burstCut_startAxis free).2 id
  have faults : (s.startAxis a).faults = s.faults := by simp [State.startAxis]
  apply State.eq_of_fields <;> simp [axes, burst, result, faults]

end startAxis

theorem State.holdAllActive_iff (s : State) :
    s.holdAllActive = true ↔ ∃ c ∈ FaultClass.all, s.page.policy c = .holdAll ∧ s.classActive c = true := by
  simp [State.holdAllActive]

/-- START's own refusals, in their order. -/
def startRefusal (s : State) (a : AxisId) : Option CmdResult :=
  if s.page.enabled a = false then some .disabled
  else if (s.axis a).state ≠ .off then some .wrongState
  else if (s.axis a).intentValid = false then some .noIntent
  else if s.selected = none then some .noSource
  else if s.holdAllActive = true then some .faultActive
  else none

theorem startCommand_of_refused {s : State} {a : AxisId} {r : CmdResult} (refused : startRefusal s a = some r) :
    startCommand a s = (r, s) := by
  unfold startRefusal at refused
  unfold startCommand
  split_ifs at refused <;> cases refused <;> simp_all

theorem startRefusal_eq_none {s : State} {a : AxisId} (accepted : startRefusal s a = none) :
    (s.axis a).state = .off ∧ startCommand a s = (.done, s.startAxis a) := by
  unfold startRefusal at accepted
  unfold startCommand
  split_ifs at accepted
  simp_all

/-- Settles O24: START's tests in their order, and the record it writes. -/
theorem startRefusesInOrderOrTakesTheClampedIntent : Obligations.StartRefusesInOrderOrTakesTheClampedIntent := by
  intro s a ready burst i refusal
  have run : ∀ r t, startCommand a (commandSeen s 1 (axisByte a)) = (r, t) → exec (.start (axisByte a)) s = .next (t.reportCommand 1 r) :=
    fun _ _ owner => congrArg _ (ready.offerAxisCommand (code := 1) (by decide) owner)
  have tests : startRefusal (commandSeen s 1 (axisByte a)) a = refusal := by
    unfold startRefusal
    simp only [State.holdAllActive_iff]
    rfl
  refine ⟨fun r refused => ⟨_, run _ _ (startCommand_of_refused (tests.trans refused)), refusedWith_reportCommand _ _ _ _⟩, fun accepted => ?_⟩
  obtain ⟨off, owner⟩ := startRefusal_eq_none (tests.trans accepted)
  have free : burstOn (commandSeen s 1 (axisByte a)) a = false :=
    burst.burstOn_eq_false (a := a) (by rw [show (s.axis a).state = .off from off]; decide)
  refine ⟨_, run _ _ owner, ?_, ?_⟩
  · rw [State.reportCommand_eq_setReport, State.startAxis_fields free, refreshMarked_withState]
    rfl
  · exact ((reports_startAxis free off).trans (reports_reportCommand _ 1 .done)).after rfl

/-! ### Compositions (R44, R58, R134) -/

theorem tells_measureDwell (s : State) (a : AxisId) :
    ∃ ended, Tells s (s.measureDwell a) (endedBy ended) [] [.axisStatus a, .activeFaults, .headline] := by
  have idle : ∀ t : State, t.report = s.report → Tells s t (endedBy false) [] [.axisStatus a, .activeFaults, .headline] := fun t same =>
    ⟨[], by simp, by simp, reports_of_report_eq same⟩
  unfold State.measureDwell
  split_ifs
  · exact ⟨false, idle _ rfl⟩
  · exact ⟨false, idle _ rfl⟩
  · have told := (tells_setAxisFlag (s.setAxis a { s.axis a with dwellTimer := none }) .limitDwell a false).after (s := s) rfl
    refine ⟨_, told.weaken (es' := endedBy _) (fun e => Iff.rfl) (by simp) ?_⟩
    split <;> simp

/-- A composition marks the output and the correction, and at most the axis's status and what the end of LIMIT_DWELL marks. -/
theorem tells_compose (s : State) (a : AxisId) :
    ∃ ended, Tells s (s.compose a) (endedBy ended) [.output a, .correction a] [.axisStatus a, .activeFaults, .headline] := by
  let ax := s.axis a
  let r := composed s.page a s.severity.state (s.excitation a) ax
  let t := s.setAxis a { ax with correction := r.correction, output := r.output, rate := r.rate, limit := r.limit }
  have marked : Tells s ((t.mark (.output a)).mark (.correction a)) [] [.output a, .correction a] [] :=
    ((reports_mark t (.output a)).trans (reports_mark _ (.correction a))).tells.after rfl
  obtain ⟨ended, measured⟩ := tells_measureDwell
    (((t.mark (.output a)).mark (.correction a)).markIf (r.rate != ax.rate || r.limit != ax.limit) (.axisStatus a)) a
  have told := (marked.trans (tells_markIf _ (r.rate != ax.rate || r.limit != ax.limit) (.axisStatus a))).trans measured
  exact ⟨ended, told.weaken (by simp) (by simp) (by simp)⟩

theorem burstCut_compose (s : State) (a : AxisId) : BurstCut s (s.compose a) False := by
  obtain ⟨ended, told⟩ := tells_compose s a
  exact burstCut_of_tells told (by simp) (by simp) (by simp) (by simp)

/-! ### RELEASE (R74, R75) -/

/-- A command that writes the axes, the flags and the report, and then its result. -/
theorem reportCommand_fields {s t : State} {code operand : Byte} {axes : Vector Axis 4}
    (fields : t = { commandSeen s code operand with axes := axes, faults := t.faults, report := t.report }) (r : CmdResult) :
    t.reportCommand code r = { s with
      axes := axes, cport := commandQueued s code operand, profile := commandShown s code operand r
      faults := (t.reportCommand code r).faults, report := (t.reportCommand code r).report } := by
  have faults : (t.reportCommand code r).faults = t.faults := by simp
  rw [faults, State.reportCommand_eq_setReport]
  generalize (t.reportCommand code r).report = report
  rw [fields]
  rfl

theorem State.releaseAxis_eq (s : State) (a : AxisId) :
    s.releaseAxis a = (((s.released a).compose a).markRefresh a).markAxisWords a := rfl

theorem burstCut_markRefresh (s : State) (a : AxisId) : BurstCut s (s.markRefresh a) False :=
  ⟨False.elim, fun _ => ⟨by simp, by simp, State.isPending_congr (markRefresh_report s a) _,
    State.isDirty_congr (markRefresh_report s a) _⟩⟩

section releaseAxis

variable {s : State} {a : AxisId} (free : burstOn s a = false)
include free

theorem burstCut_released : BurstCut s (s.released a) False :=
  (burstCut_setAxisState_of_free (s := s.setAxis a (releasedAxis s.page a (s.axis a))) .stabilising free).after
    ⟨False.elim, fun _ => ⟨rfl, rfl, rfl, rfl⟩⟩

theorem released_burstOn : burstOn (s.released a) a = false := by
  obtain ⟨burst, -⟩ := (burstCut_released free).2 id
  rw [burstOn, burst]
  exact free

theorem burstCut_releaseAxis : BurstCut s (s.releaseAxis a) False := by
  rw [State.releaseAxis_eq]
  exact (burstCut_markAxisWords _ a).after ((burstCut_markRefresh _ a).after ((burstCut_compose _ a).after (burstCut_released free)))

theorem tells_releaseAxis (held : (s.axis a).state = .held) :
    ∃ ended, Tells s (s.releaseAxis a) (.axisState :: endedBy ended) [.axisStatus a, .output a, .correction a]
      [.activeFaults, .headline] := by
  have change : ((s.setAxis a (releasedAxis s.page a (s.axis a))).axis a).state ≠ .stabilising := by
    simp [releasedAxis, held]
  have released : Reports s (s.released a) [.axisState] [.axisStatus a] := (reports_setAxisState_of_free change free).after rfl
  obtain ⟨ended, composed⟩ := tells_compose (s.released a) a
  have words := (reports_markAxisWords (((s.released a).compose a).markRefresh a) a).after (markRefresh_report _ _)
  have told := (released.tells.trans composed).trans words.tells
  rw [← State.releaseAxis_eq] at told
  exact ⟨ended, told.weaken (by simp) (by simp) (by simp)⟩

theorem State.releaseAxis_fields (active : s.profileActive = true) : s.releaseAxis a = { s with
    axes := withAxis s a (refreshMarked (composedAxis s.page a s.severity.state 0
      { releasedAxis s.page a (s.axis a) with state := .stabilising }))
    faults := (s.releaseAxis a).faults, report := (s.releaseAxis a).report } := by
  have axes := State.axes_eq_withAxis (State.axis_releaseAxis active a)
  rw [State.excitation_of_burstOn_eq_false (released_burstOn free)] at axes
  obtain ⟨burst, result, -⟩ := (burstCut_releaseAxis free).2 id
  apply State.eq_of_fields <;> simp [axes, burst, result]

end releaseAxis

theorem releaseCommand_of_elsewhere {s : State} {a : AxisId} (elsewhere : (s.axis a).state ≠ .held) :
    releaseCommand a s = (.wrongState, s) := by
  simp [releaseCommand, elsewhere]

theorem releaseCommand_of_blocked {s : State} {a : AxisId} (held : (s.axis a).state = .held) (blocked : s.releaseBlocked a = true) :
    releaseCommand a s = (.faultActive, s) := by
  simp [releaseCommand, held, blocked]

theorem releaseCommand_of_free {s : State} {a : AxisId} (held : (s.axis a).state = .held) (free : s.releaseBlocked a = false) :
    releaseCommand a s = (.done, s.releaseAxis a) := by
  simp [releaseCommand, held, free]

theorem State.releaseBlocked_iff (s : State) (a : AxisId) :
    s.releaseBlocked a = true ↔ ((s.axis a).causes.sourceLost = true ∧ s.faults.sourceLost = true) ∨
      ((s.axis a).causes.sourceFallback = true ∧ s.faults.sourceFallback = true) ∨
      ((s.axis a).causes.controllerSilent = true ∧ (s.axis a).silentActive = true) ∨
      ((s.axis a).causes.limitDwell = true ∧ (s.axis a).limitDwellActive = true) ∨
      ((s.axis a).causes.refreshLate = true ∧ (s.axis a).lateActive = true) := by
  simp [State.releaseBlocked, or_assoc]

/-- Settles O27: RELEASE's tests, and the composition from the held output. -/
theorem releaseComposesFromTheImage : Obligations.ReleaseComposesFromTheImage := by
  intro s a ready burst ax blocked
  have run : ∀ r t, releaseCommand a (commandSeen s 4 (axisByte a)) = (r, t) → exec (.release (axisByte a)) s = .next (t.reportCommand 4 r) :=
    fun _ _ owner => congrArg _ (ready.offerAxisCommand (code := 4) (by decide) owner)
  have active : (commandSeen s 4 (axisByte a)).profileActive = true := ready.2.2
  have tests : (commandSeen s 4 (axisByte a)).releaseBlocked a = true ↔ blocked := State.releaseBlocked_iff _ a
  refine ⟨fun elsewhere => ⟨_, run _ _ (releaseCommand_of_elsewhere (s := commandSeen s 4 (axisByte a)) elsewhere),
      refusedWith_reportCommand _ _ _ _⟩,
    fun held stands => ⟨_, run _ _ (releaseCommand_of_blocked (s := commandSeen s 4 (axisByte a)) held (tests.mpr stands)),
      refusedWith_reportCommand _ _ _ _⟩, fun held passes => ?_⟩
  have executed := run _ _ (releaseCommand_of_free (s := commandSeen s 4 (axisByte a)) held
    (Bool.eq_false_iff.mpr (mt tests.mp passes)))
  have free : burstOn (commandSeen s 4 (axisByte a)) a = false :=
    burst.burstOn_eq_false (a := a) (by rw [show (s.axis a).state = .held from held]; decide)
  obtain ⟨ended, released⟩ := tells_releaseAxis free held
  have told : Tells s (((commandSeen s 4 (axisByte a)).releaseAxis a).reportCommand 4 .done)
      ((Event.axisState :: endedBy ended) ++ [Event.commandDone])
      ([ReportWord.axisStatus a, .output a, .correction a] ++ [ReportWord.commandResult]) ([.activeFaults, .headline] ++ []) :=
    (released.trans (reports_reportCommand _ 4 .done).tells).after rfl
  refine ⟨_, executed, ?_, (axisRun_releaseAxis _ a).sameDeviceFlags .done, told.isPending (by simp), told.isPending (by simp), ?_⟩
  · exact reportCommand_fields (State.releaseAxis_fields free active) .done
  · exact (told.weaken (fun e => Iff.rfl) (fun w => id) (by simp [faultWords])).marksWithin (by simp [faultWords])

end Sys2Proof.Machine
end

section
/-! The intent writes (R61, R65, R68, R91, R92). -/

namespace Sys2Proof.Machine

/-- The state of an intent write before its axis composes. -/
def State.noted (s : State) (a : AxisId) (addr : Addr) (data : Word) (lanes : Lanes) : State :=
  ((s.setAxis a { s.axis a with intent := mergedIntent (s.axis a) data lanes, intentValid := true, outAddr := some addr }).mark
    (.intent a)).setAxisFlag .controllerSilent a false

section recordIntent

variable {s : State} {a : AxisId} {addr : Addr} {data : Word} {lanes : Lanes}

theorem State.recorded_eq : s.recorded a addr data lanes = ((s.noted a addr data lanes).startSilence a).setAxisState a .stabilising := rfl

theorem State.recordIntent_of_composes (composes : (s.axis a).state.composes = true) :
    s.recordIntent a addr data lanes = (s.recorded a addr data lanes).compose a := by
  simp only [State.recordIntent, composes, if_true]
  rfl

theorem State.recordIntent_of_quiet (quiet : (s.axis a).state.composes = false) :
    s.recordIntent a addr data lanes = s.noted a addr data lanes := by
  simp only [State.recordIntent, quiet, Bool.false_eq_true, if_false]
  rfl

theorem tells_noted (active : s.profileActive = true) :
    Tells s (s.noted a addr data lanes) (endedBy (s.axis a).silentActive) [.intent a] [.axisStatus a, .activeFaults, .headline] := by
  let written := (s.setAxis a { s.axis a with intent := mergedIntent (s.axis a) data lanes, intentValid := true, outAddr := some addr }).mark
    (.intent a)
  have marked : Reports s written [] [.intent a] := (reports_mark _ _).after rfl
  have ended := tells_endFlag (s := written) active .controllerSilent a
  have silent : (written.axis a).classActive .controllerSilent = (s.axis a).silentActive := by simp [written, Axis.classActive]
  rw [silent] at ended
  refine (marked.tells.trans ended).weaken (by simp) (by simp) ?_
  cases (s.axis a).silentActive <;> simp [statusBy]

theorem burstCut_noted : BurstCut s (s.noted a addr data lanes) False :=
  (burstCut_setAxisFlag _ .controllerSilent a false).after
    (burstCut_of_reports ((reports_mark (s.setAxis a { s.axis a with
      intent := mergedIntent (s.axis a) data lanes, intentValid := true, outAddr := some addr }) (.intent a)).after rfl) (by simp) (by simp)
      rfl rfl)

theorem State.startSilence_noted_state : (((s.noted a addr data lanes).startSilence a).axis a).state = (s.axis a).state := by
  have noted : ((s.noted a addr data lanes).axis a).state = (s.axis a).state :=
    (statesStand_setAxisFlag _ _ _ _ a).1.trans (by simp)
  simp [State.startSilence, noted]

/-- An intent write leaves a burst on its axis, which is STABILISING already. -/
theorem burstCut_recorded (burst : BurstOnStabilising s) : BurstCut s (s.recorded a addr data lanes) False := by
  have noted : BurstCut s ((s.noted a addr data lanes).startSilence a) False :=
    BurstCut.after ⟨False.elim, fun _ => ⟨rfl, rfl, rfl, rfl⟩⟩ burstCut_noted
  rw [State.recorded_eq]
  by_cases stabilising : (s.axis a).state = .stabilising
  · rw [setAxisState_same (State.startSilence_noted_state.trans stabilising)]
    exact noted
  · have free : burstOn ((s.noted a addr data lanes).startSilence a) a = false := by
      rw [burstOn, (noted.2 id).1]
      exact burst.burstOn_eq_false stabilising
    exact (burstCut_setAxisState_of_free _ free).after noted

theorem State.recorded_excitation (burst : BurstOnStabilising s) : (s.recorded a addr data lanes).excitation a = s.excitation a :=
  State.excitation_congr ((burstCut_recorded burst).2 id).1 a

theorem burstCut_recordIntent (burst : BurstOnStabilising s) : BurstCut s (s.recordIntent a addr data lanes) False := by
  cases composes : (s.axis a).state.composes with
  | true =>
    rw [State.recordIntent_of_composes composes]
    exact (burstCut_compose _ a).after (burstCut_recorded burst)
  | false =>
    rw [State.recordIntent_of_quiet composes]
    exact burstCut_noted

theorem tells_recorded (active : s.profileActive = true) (burst : BurstOnStabilising s) :
    Tells s (s.recorded a addr data lanes)
      (endedBy (s.axis a).silentActive ++ if (s.axis a).state = .stabilising then [] else [Event.axisState]) [.intent a]
      [.axisStatus a, .activeFaults, .headline] := by
  have noted : Tells s ((s.noted a addr data lanes).startSilence a) (endedBy (s.axis a).silentActive) [.intent a]
      [.axisStatus a, .activeFaults, .headline] :=
    (tells_noted active).trans (Reports.tells (ws := []) (reports_of_report_eq rfl)) |>.weaken (by simp) (by simp) (by simp)
  rw [State.recorded_eq]
  by_cases stabilising : (s.axis a).state = .stabilising
  · rw [setAxisState_same (State.startSilence_noted_state.trans stabilising), if_pos stabilising, List.append_nil]
    exact noted
  · have free : burstOn ((s.noted a addr data lanes).startSilence a) a = false := by
      have same : ((s.noted a addr data lanes).startSilence a).burst = s.burst := by simp [State.noted, State.startSilence]
      rw [burstOn, same]
      exact burst.burstOn_eq_false stabilising
    have change : (((s.noted a addr data lanes).startSilence a).axis a).state ≠ .stabilising := by
      rwa [State.startSilence_noted_state]
    rw [if_neg stabilising]
    exact (noted.trans (reports_setAxisState_of_free change free).tells).weaken (by simp) (by simp) (by simp)

theorem tells_recordIntent_of_composes (active : s.profileActive = true) (burst : BurstOnStabilising s)
    (composes : (s.axis a).state.composes = true) :
    ∃ ended, Tells s (s.recordIntent a addr data lanes)
      ((endedBy (s.axis a).silentActive ++ if (s.axis a).state = .stabilising then [] else [Event.axisState]) ++ endedBy ended)
      [.intent a, .output a, .correction a] [.axisStatus a, .activeFaults, .headline] := by
  obtain ⟨ended, composed⟩ := tells_compose (s.recorded a addr data lanes) a
  rw [State.recordIntent_of_composes composes]
  exact ⟨ended, ((tells_recorded active burst).trans composed).weaken (fun e => Iff.rfl) (by simp) (by simp)⟩

theorem State.recordIntent_fields (active : s.profileActive = true) (burst : BurstOnStabilising s) :
    s.recordIntent a addr data lanes = { s with
      axes := withAxis s a (if (s.axis a).state.composes then
          composedAxis s.page a s.severity.state (s.excitation a)
            { recordedAxis (s.axis a) addr data lanes with state := .stabilising, silenceTimer := Timer.startUnlessZero (s.page.silenceMs a) }
        else recordedAxis (s.axis a) addr data lanes)
      faults := (s.recordIntent a addr data lanes).faults, report := (s.recordIntent a addr data lanes).report } := by
  have axes := State.axes_eq_withAxis (State.axis_recordIntent active a addr data lanes)
  rw [State.recorded_excitation burst] at axes
  obtain ⟨left, result, -⟩ := (burstCut_recordIntent (a := a) (addr := addr) (data := data) (lanes := lanes) burst).2 id
  apply State.eq_of_fields <;> simp [axes, left, result]

end recordIntent

/-- A write that an INTENT window decides joins the queue, and is recorded. -/
theorem exec_controllerWrite_of_intent {s : State} {addr : Addr} {lanes : Lanes} {a : AxisId} (takes : CportTakes s)
    (enabled : lanes ≠ .neither) (decided : s.classify addr = .intent a) (data : Word) :
    exec (.controllerWrite addr data lanes) s =
      .next ((s.enqueue (.write addr data lanes) (some a)).recordIntent a addr data lanes) := by
  refine congrArg Host.Outcome.next ((State.offer_of_takes takes _).trans ?_)
  simp [State.accept, enabled, State.acceptClassified, decided]

theorem composes_match {α : Type} (st : AxisState) (x y : α) :
    (if st.composes then x else y) = match st with | .off | .held => y | .stabilising | .coasting => x := by
  cases st <;> rfl

/-- Settles O35: the write is recorded, and a STABILISING or COASTING axis composes. -/
theorem intentWriteActsByTheAxisState : Obligations.IntentWriteActsByTheAxisState := by
  intro s addr data lanes a takes enabled decided burst ax old merged recorded
  let q := s.enqueue (.write addr data lanes) (some a)
  have active : q.profileActive = true := State.profileActive_of_classify_intent decided
  have run : exec (.controllerWrite addr data lanes) s = .next (q.recordIntent a addr data lanes) :=
    exec_controllerWrite_of_intent takes enabled decided data
  have burst' : BurstOnStabilising q := burst
  have fields := State.recordIntent_fields (a := a) (addr := addr) (data := data) (lanes := lanes) active burst'
  have device : SameDeviceFlags q (q.recordIntent a addr data lanes) :=
    (sameDeviceFlags_iff _ _).mpr (axisRun_recordIntent q a addr data lanes).device
  refine ⟨_, run, ?_, device, ?_⟩
  · rw [composes_match] at fields
    exact fields
  · cases composes : ax.state.composes with
    | true =>
      obtain ⟨ended, told⟩ := tells_recordIntent_of_composes (a := a) (addr := addr) (data := data) (lanes := lanes) active burst' composes
      refine ⟨told.isDirty (by simp), fun _ => ⟨told.isDirty (by simp), told.isDirty (by simp)⟩, fun coasting => told.isPending ?_,
        fun silent => told.isPending ?_, run⟩
      · rw [if_neg (by rw [show (q.axis a).state = .coasting from coasting]; decide)]
        simp
      · rw [show (q.axis a).silentActive = true from silent]
        simp
    | false =>
      rw [State.recordIntent_of_quiet (s := q) composes] at run ⊢
      have told := tells_noted (a := a) (addr := addr) (data := data) (lanes := lanes) active
      have quiet : ¬ (ax.state = .stabilising ∨ ax.state = .coasting) := by rw [← AxisState.composes_iff, composes]; decide
      refine ⟨told.isDirty (by simp), fun composing => (quiet composing).elim, fun coasting => (quiet (.inr coasting)).elim,
        fun silent => told.isPending ?_, run⟩
      rw [show (q.axis a).silentActive = true from silent]
      simp

end Sys2Proof.Machine
end

section
/-! What an arrival does (R20 to R26, R32, R47, R48, R53, R110 to R113): the numbers of the axes and of the burst in the terms of the manual, and
the reports of each stage. -/

namespace Sys2Proof.Machine

/-! ### The numbers of an arrival -/

theorem leak_eq_leakOf (k : Nat) (theta : Int) : leak k theta = leakOf k theta := by
  unfold leakOf
  split
  next zero => rw [zero, leak_zero]
  next other =>
    split
    next pos => rw [leak_of_pos k pos]
    next neg =>
      have pos : 0 < -theta := by omega
      rw [← neg_neg theta, leak_neg, leak_of_pos k pos, neg_neg, Int.natAbs_neg]

theorem integrate_eq_iterate (k : Nat) (d : Int) (n : Nat) (theta : Int) :
    integrate k d n theta = (fun theta => theta + d - leakOf k theta)^[n] theta := by
  induction n generalizing theta with
  | zero => rfl
  | succ n ih => rw [integrate, ih, Function.iterate_succ_apply, integrateStep, leak_eq_leakOf]

theorem sequenceGap_of_live {l : Link} (live : l.state = .live) (f : List Byte) : sequenceGap l (frameByte f 1) = gapOf l f := by
  rw [sequenceGap, if_pos live, gapOf]
  have one : (1 : Byte).toNat = 1 := rfl
  simp only [BitVec.toNat_sub, one]
  omega

theorem integratedAxis_eq (s : State) (arr : Arrival) (d : Int) (a : AxisId) :
    integratedAxis s arr d a (s.axis a) = { s.axis a with theta := integratedTheta s a d arr.gap } := by
  unfold integratedAxis integratedTheta
  simp only [integrate_eq_iterate, stepCount]
  split
  · rfl
  · rfl

theorem composedAndCounted_integratedAxis (s : State) (arr : Arrival) (d : Int) (a : AxisId) :
    composedAndCounted s.page a s.severity.state (s.excitation a) (integratedAxis s arr d a (s.axis a)) = arrivedAxis s a d arr.gap := by
  rw [integratedAxis_eq]
  unfold composedAndCounted arrivedAxis
  simp only []
  split
  next composes =>
    rw [AxisState.composes_iff] at composes
    obtain state | state := composes <;> rw [state]
  next rests =>
    rw [AxisState.composes_iff] at rests
    cases state : (s.axis a).state <;> simp [state] at rests ⊢

theorem State.axis_arrived {s : State} (active : s.profileActive = true) (arr : Arrival) (a : AxisId) :
    (s.arrival arr).axis a = arrivedAxis s a (disturbance s arr.source arr.rates a) arr.gap :=
  (State.axis_arrival active arr a).trans (composedAndCounted_integratedAxis s arr (s.axisRate arr a) a)

theorem noiseStep_eq_noiseAfter (n : BitVec 15) : noiseStep n = noiseAfter n := by
  apply BitVec.eq_of_toNat_eq
  have odd : 2 * n.toNat % 32768 ||| 1 = (2 * n.toNat + 1) % 32768 := by
    have low := Nat.two_pow_add_eq_or_of_lt (i := 1) (b := 1) (by decide) (n.toNat % 16384)
    rw [show 2 * n.toNat % 32768 = 2 ^ 1 * (n.toNat % 16384) by omega, ← low]
    omega
  unfold noiseStep noiseAfter
  cases n.getLsbD 14 <;> cases n.getLsbD 13 <;> simp [Nat.shiftLeft_eq, Nat.mul_comm n.toNat 2, odd]

theorem Burst.advance_eq (b : Burst) : b.advance = burstAdvanced b := by
  unfold Burst.advance burstAdvanced
  simp only []
  split
  · unfold Burst.nextValue
    cases b.waveform <;> simp [noiseStep_eq_noiseAfter]
  · rfl

/-! ### The compositions -/

/-- The words that the arrival at an axis may mark. -/
def arrivedWords (a : AxisId) : List ReportWord :=
  [.eventPending, .output a, .correction a, .axisStatus a, .activeFaults, .headline]

theorem State.arrivalAt_of_composes {s : State} {a : AxisId} (composes : (s.axis a).state.composes = true) :
    s.arrivalAt a = (s.compose a).countArrival a := if_pos composes

theorem tells_arrivalAt {s : State} {a : AxisId} (composes : (s.axis a).state.composes = true) :
    ∃ ended, Tells s (s.arrivalAt a) (endedBy ended) [.output a, .correction a] [.axisStatus a, .activeFaults, .headline] := by
  obtain ⟨ended, told⟩ := tells_compose s a
  rw [State.arrivalAt_of_composes composes]
  have counted := (reports_of_report_eq (countArrival_report (s.compose a) a)).tells
  exact ⟨ended, (told.trans counted).weaken (by simp) (by simp) (by simp)⟩

theorem reportsWithin_arrivalAt (s : State) (a : AxisId) : ReportsWithin s (s.arrivalAt a) [.faultCleared] (arrivedWords a) := by
  cases composes : (s.axis a).state.composes with
  | true =>
    obtain ⟨ended, told⟩ := tells_arrivalAt composes
    exact told.within.mono (by cases ended <;> simp [endedBy]) (by simp [arrivedWords])
  | false =>
    rw [State.arrivalAt, composes]
    exact .of_report rfl _ _

/-- OUTPUT and CORRECTION of an axis are dirty. -/
def OutputDirty (s : State) (a : AxisId) : Prop := s.isDirty (.output a) = true ∧ s.isDirty (.correction a) = true

/-- The arrival at one axis leaves the marks of the others, and no arrival takes a mark away. -/
theorem OutputDirty.arrivalAt {s : State} {a : AxisId} (h : OutputDirty s a) (b : AxisId) : OutputDirty (s.arrivalAt b) a := by
  by_cases same : b = a
  · subst same
    cases composes : (s.axis b).state.composes with
    | true =>
      obtain ⟨ended, told⟩ := tells_arrivalAt composes
      exact ⟨told.isDirty (by simp), told.isDirty (by simp)⟩
    | false => rwa [State.arrivalAt, composes]
  · have within := reportsWithin_arrivalAt s b
    exact ⟨(within.2 _ (by simp [arrivedWords, Ne.symm same])).trans h.1, (within.2 _ (by simp [arrivedWords, Ne.symm same])).trans h.2⟩

theorem OutputDirty.of_within {s t : State} {a : AxisId} (h : OutputDirty s a) {es : List Event} {ws : List ReportWord}
    (within : ReportsWithin s t es ws) (apart : .output a ∉ ws ∧ .correction a ∉ ws) : OutputDirty t a :=
  ⟨(within.2 _ apart.1).trans h.1, (within.2 _ apart.2).trans h.2⟩

/-- What is shown of an axis at its turn and kept by the turns after it is shown by the turns of all four. -/
theorem forAxes_reaches {P Q : State → Prop} {f : AxisId → State → State} (a : AxisId) (before : ∀ b t, Q t → Q (f b t))
    (turn : ∀ t, Q t → P (f a t)) (after : ∀ b t, P t → P (f b t)) {s : State} (h : Q s) : P (forAxes f s) := by
  unfold forAxes
  have h1 := before 0 s h
  have h2 := before 1 _ h1
  have h3 := before 2 _ h2
  fin_cases a
  · exact after 3 _ (after 2 _ (after 1 _ (turn _ h)))
  · exact after 3 _ (after 2 _ (turn _ h1))
  · exact after 3 _ (turn _ h2)
  · exact turn _ h3

/-- The state in which every axis has had its turn at an arrival, and the burst has not. -/
def State.axesArrived (s : State) (arr : Arrival) : State :=
  forAxes (fun a t => t.arrivalAt a) (forAxes (fun a t => t.integrateAxis arr (s.axisRate arr a) a) s)

theorem State.arrival_eq (s : State) (arr : Arrival) :
    s.arrival arr = ((s.axesArrived arr).burstStep.updateLevel (s.axisRate arr)).captureStep arr := rfl

theorem integrated_report (s : State) (arr : Arrival) :
    (forAxes (fun a t => t.integrateAxis arr (s.axisRate arr a) a) s).report = s.report := by
  simp [forAxes]

/-- What `State.axesArrived` leaves as it was. -/
theorem State.axesArrived_frame (s : State) (arr : Arrival) :
    (s.axesArrived arr).page = s.page ∧ (s.axesArrived arr).severity = s.severity ∧ (s.axesArrived arr).burst = s.burst ∧
    (s.axesArrived arr).exciteResult = s.exciteResult ∧ (s.axesArrived arr).capture = s.capture ∧
    (s.axesArrived arr).zeroResult = s.zeroResult ∧ (s.axesArrived arr).bias = s.bias := by
  simp [State.axesArrived, forAxes]

/-- An axis's words other than its status. -/
def axesWords : List ReportWord := arrivedWords 0 ++ arrivedWords 1 ++ arrivedWords 2 ++ arrivedWords 3

theorem arrivedWords_subset (a : AxisId) : arrivedWords a ⊆ axesWords := by
  fin_cases a <;> simp [arrivedWords, axesWords]

theorem reportsWithin_axesArrived (s : State) (arr : Arrival) : ReportsWithin s (s.axesArrived arr) [.faultCleared] axesWords :=
  forAxes_keeps (P := fun t => ReportsWithin s t [.faultCleared] axesWords)
    (fun a t h => ((reportsWithin_arrivalAt t a).mono (by simp) (arrivedWords_subset a)).comp h)
    (.of_report (integrated_report s arr) _ _)

theorem statesStand_integrateAxis (arr : Arrival) (d : Int) (s : State) (a : AxisId) : StatesStand s (s.integrateAxis arr d a) := by
  unfold State.integrateAxis
  split
  · exact statesStand_setAxis rfl rfl
  · exact .of_axes_eq rfl

theorem statesStand_integrated (s : State) (arr : Arrival) :
    StatesStand s (forAxes (fun a t => t.integrateAxis arr (s.axisRate arr a) a) s) :=
  forAxes_keeps (P := StatesStand s) (fun a t h => (statesStand_integrateAxis arr _ t a).comp h) (.of_axes_eq rfl)

theorem outputDirty_axesArrived {s : State} (arr : Arrival) {a : AxisId} (composes : (s.axis a).state.composes = true) :
    OutputDirty (s.axesArrived arr) a := by
  refine forAxes_reaches (P := fun t => OutputDirty t a) (Q := fun t => (t.axis a).state.composes = true) a (fun b t h => ?_) (fun t h => ?_) (fun b t h => h.arrivalAt b) ?_
  · rwa [(statesStand_arrivalAt t b a).1]
  · obtain ⟨ended, told⟩ := tells_arrivalAt h
    exact ⟨told.isDirty (by simp), told.isDirty (by simp)⟩
  · rwa [(statesStand_integrated s arr a).1]

/-! ### The burst -/

theorem State.burstStep_of_idle {s : State} (idle : s.burst.state = .idle) : s.burstStep = s := by simp [State.burstStep, idle]

theorem burstAdvanced_remaining (b : Burst) : (burstAdvanced b).remaining = b.remaining - 1 := by
  unfold burstAdvanced
  simp only []
  split
  · cases b.waveform <;> rfl
  · rfl

theorem State.burstStep_of_last {s : State} (running : s.burst.state = .running) (last : s.burst.remaining = 1) :
    s.burstStep = s.endBurst (burstAdvanced s.burst) (.done s.burst.axis) := by
  have remaining : (burstAdvanced s.burst).remaining = 0 := by rw [burstAdvanced_remaining, last]
  simp [State.burstStep, running, Burst.advance_eq, remaining]

theorem State.burstStep_of_more {s : State} (running : s.burst.state = .running) (more : 2 ≤ s.burst.remaining) :
    s.burstStep = { s with burst := burstAdvanced s.burst } := by
  have remaining : (burstAdvanced s.burst).remaining ≠ 0 := by
    rw [burstAdvanced_remaining]
    omega
  simp [State.burstStep, running, Burst.advance_eq, remaining]

theorem reportsWithin_burstStep (s : State) : ReportsWithin s s.burstStep [.exciteDone] [.eventPending, .exciteResult] := by
  unfold State.burstStep
  split
  · exact .of_report rfl _ _
  · split
    · exact (reports_endBurst _ _ _).tells.within
    · exact .of_report rfl _ _

/-! ### The road -/

theorem isRough_iff (p : Page) (d : AxisId → Int) : isRough p d = true ↔ ∃ a, p.enabled a = true ∧ p.threshold ≤ (d a).natAbs := by
  simp [isRough, anyAxis_iff]

theorem nextLevel_eq (rough : Bool) (level : Nat) :
    nextLevel rough level = if rough then (if 255 < level + 2 then 255 else level + 2) else level - 1 := by
  unfold nextLevel
  cases rough
  · rfl
  · simp only [if_true]
    split <;> omega

/-- The state with the level of an arrival written. -/
def State.leveled (s : State) (level : Nat) : State := { s with severity := { s.severity with level := level } }

theorem State.updateLevel_eq (s : State) (d : AxisId → Int) :
    s.updateLevel d = ((s.leveled (nextLevel (isRough s.page d) s.severity.level)).markIf
      (nextLevel (isRough s.page d) s.severity.level != s.severity.level) .severity).judgeSeverity := rfl

/-- The Severity Monitor after the entry to BOOSTING, which a settle time of 0 ends at once. -/
def severityEntered (p : Page) (v : Severity) : Severity :=
  let b := { v with boostHeld := if p.boostEnable then some p.boostActive else v.boostHeld }
  if p.settleMs ≠ 0 then { b with state := .boosting, settleTimer := some p.settleMs }
  else if v.level ≠ 0 then { b with state := .rough, settleTimer := none }
  else { b with state := .easing, settleTimer := none, exitHoldTimer := some p.exitHoldMs }

/-- The entry to BOOSTING before a settle time of 0 is looked at. -/
def State.boosted (s : State) : State :=
  ((({ s with severity := { s.severity with settleTimer := some s.page.settleMs } } : State).holdBoost s.page.boostActive).setSeverity
    .boosting).raise .severityEnter

theorem State.enterBoosting_eq (s : State) : s.enterBoosting = if s.page.settleMs = 0 then s.boosted.settle else s.boosted := rfl

theorem State.boosted_severity (s : State) : s.boosted.severity = { s.severity with
    state := .boosting, settleTimer := some s.page.settleMs
    boostHeld := if s.page.boostEnable = true then some s.page.boostActive else s.severity.boostHeld } := by
  rw [State.boosted, (State.raise_frame _ _).2.2.2.2.2.2.2.2.2.2.2.1, State.setSeverity_eq, State.holdBoost_eq]
  rfl

theorem reports_boosted (s : State) : Reports s s.boosted [.severityEnter] [.severity] :=
  ((reports_setSeverity _ _).trans (reports_raise _ _)).after (holdBoost_report _ _)

theorem State.settle_severity (s : State) : s.settle.severity = { s.severity with
    settleTimer := none
    state := if s.severity.level = 0 then .easing else .rough
    exitHoldTimer := if s.severity.level = 0 then some s.page.exitHoldMs else s.severity.exitHoldTimer } :=
  congrArg State.severity s.settle_eq

theorem State.enterBoosting_severity (s : State) : s.enterBoosting.severity = severityEntered s.page s.severity := by
  have page : s.boosted.page = s.page := by simp [State.boosted, State.page]
  rw [State.enterBoosting_eq, severityEntered]
  by_cases settle : s.page.settleMs = 0
  · by_cases level : s.severity.level = 0 <;> simp [settle, level, State.settle_severity, State.boosted_severity, page]
  · simp [settle, State.boosted_severity]

theorem reports_enterBoosting (s : State) : Reports s s.enterBoosting [.severityEnter] [.severity] := by
  rw [State.enterBoosting_eq]
  split
  · exact ((reports_boosted s).trans (reports_settle _)).congr (fun e => by simp) fun w => by simp
  · exact reports_boosted s

theorem State.setSeverity_severity (s : State) (st : SeverityState) : (s.setSeverity st).severity = { s.severity with state := st } := rfl

theorem State.startEasing_severity (s : State) :
    s.startEasing.severity = { s.severity with state := .easing, exitHoldTimer := some s.page.exitHoldMs } := rfl

/-- The Severity Monitor after the state change that its level calls for. -/
def severityJudged (p : Page) (v : Severity) : Severity :=
  match v.state with
  | .calm => if v.level < p.entryLevel then v else severityEntered p v
  | .boosting => v
  | .rough => if v.level = 0 then { v with state := .easing, exitHoldTimer := some p.exitHoldMs } else v
  | .easing => if v.level = 0 then v else { v with state := .rough, exitHoldTimer := none }

theorem severityEntered_ne_calm (p : Page) (v : Severity) : (severityEntered p v).state ≠ .calm := by
  unfold severityEntered
  split_ifs <;> simp

theorem severityEntered_level (p : Page) (v : Severity) : (severityEntered p v).level = v.level := by
  unfold severityEntered
  split_ifs <;> rfl

theorem severityArrived_eq (p : Page) (rough : Bool) (v : Severity) :
    severityArrived p rough v = severityJudged p { v with level := nextLevel rough v.level } := by
  rw [nextLevel_eq]
  rfl

/-- The events of the Severity Monitor's change of state. -/
def enterEvents (v w : Severity) : List Event := if v.state = .calm ∧ w.state ≠ .calm then [.severityEnter] else []

/-- The words of a change of what SEVERITY shows. -/
def severityWords (v w : Severity) : List ReportWord := if (w.level, w.state) ≠ (v.level, v.state) then [.severity] else []

theorem State.judgeSeverity_severity (s : State) : s.judgeSeverity.severity = severityJudged s.page s.severity := by
  unfold State.judgeSeverity severityJudged
  cases state : s.severity.state with
  | calm =>
    simp only []
    by_cases level : s.severity.level < s.page.entryLevel
    · rw [if_neg (by omega), if_pos level]
    · rw [if_pos (by omega), if_neg level, State.enterBoosting_severity]
  | boosting => rfl
  | rough =>
    simp only []
    split
    · rfl
    · rfl
  | easing =>
    simp only []
    split
    · rfl
    · rfl

theorem reports_judgeSeverity (s : State) :
    Reports s s.judgeSeverity (enterEvents s.severity s.judgeSeverity.severity) (severityWords s.severity s.judgeSeverity.severity) := by
  have still : ∀ {t : State}, t = s → Reports s t (enterEvents s.severity t.severity) (severityWords s.severity t.severity) := by
    rintro t rfl
    simpa [enterEvents, severityWords] using reports_of_report_eq rfl
  unfold State.judgeSeverity
  cases state : s.severity.state with
  | calm =>
    simp only []
    split
    · have entered := severityEntered_ne_calm s.page s.severity
      rw [State.enterBoosting_severity]
      simpa [enterEvents, severityWords, state, entered] using reports_enterBoosting s
    · exact still rfl
  | boosting => exact still rfl
  | rough =>
    simp only []
    split
    · simpa [enterEvents, severityWords, state, State.startEasing_severity] using reports_startEasing s
    · exact still rfl
  | easing =>
    simp only []
    split
    · exact still rfl
    · have told := (reports_setSeverity ({ s with severity := { s.severity with exitHoldTimer := none } } : State) .rough).after (s := s) rfl
      simpa [enterEvents, severityWords, state, State.setSeverity_severity] using told

theorem State.updateLevel_severity (s : State) (d : AxisId → Int) :
    (s.updateLevel d).severity = severityArrived s.page (isRough s.page d) s.severity := by
  rw [State.updateLevel_eq, State.judgeSeverity_severity, severityArrived_eq]
  simp [State.leveled, State.page]

theorem severityJudged_level (p : Page) (v : Severity) : (severityJudged p v).level = v.level := by
  unfold severityJudged
  cases v.state <;> simp only [] <;> split_ifs <;> simp [severityEntered_level]

theorem reports_updateLevel (s : State) (d : AxisId → Int) :
    Reports s (s.updateLevel d) (enterEvents s.severity (s.updateLevel d).severity)
      (severityWords s.severity (s.updateLevel d).severity) := by
  let level := nextLevel (isRough s.page d) s.severity.level
  let u := (s.leveled level).markIf (level != s.severity.level) .severity
  have marked : Reports s u [] (if (level != s.severity.level) = true then [.severity] else []) :=
    (reports_markIf (s.leveled level) _ _).after rfl
  have judged : Reports u (s.updateLevel d) _ _ := reports_judgeSeverity u
  have start : u.severity = { s.severity with level := level } := by simp [u, State.leveled]
  have shown : u.judgeSeverity.severity.level = level := by rw [State.judgeSeverity_severity, severityJudged_level, start]
  have end_ : (s.updateLevel d).severity = u.judgeSeverity.severity := rfl
  rw [end_]
  refine (marked.trans judged).congr (fun e => ?_) fun w => ?_
  · simp [enterEvents, start]
  · by_cases same : level = s.severity.level <;> simp [severityWords, start, shown, same]

end Sys2Proof.Machine
end

section
/-! An arrival as a whole, from the frame of the selected source (R17 to R20, R32, R34 to R38). -/

namespace Sys2Proof.Machine

/-! ### The capture at an arrival (R34, R35, R37) -/

theorem Channels.still_eq_false_iff (r : Channels) (threshold : Nat) :
    r.still threshold = false ↔ threshold < r.x.natAbs ∨ threshold < r.y.natAbs ∨ threshold < r.z.natAbs := by
  simp [Channels.still, or_assoc, imp_iff_not_or]

theorem State.captureStep_of_idle {s : State} (idle : s.capture.state = .idle) (arr : Arrival) : s.captureStep arr = s := by
  simp [State.captureStep, idle]

section capture

variable {s : State} {arr : Arrival} (running : s.capture.state = .running) (source : s.capture.source = arr.source)
include running source

theorem State.captureStep_of_moving (moving : arr.rates.still s.page.stillness = false) :
    s.captureStep arr = s.endCapture s.capture (.moving arr.source) := by
  simp [State.captureStep, running, source, moving]

theorem State.captureStep_of_more (still : arr.rates.still s.page.stillness = true) (more : s.capture.count + 1 ≠ 1024) :
    s.captureStep arr = { s with
      capture := { s.capture with sums := s.capture.sums.add arr.rates, count := s.capture.count + 1 } } := by
  simp [State.captureStep, running, source, still, more]

theorem State.captureStep_of_last (still : arr.rates.still s.page.stillness = true) (last : s.capture.count + 1 = 1024) :
    s.captureStep arr =
      s.completeCapture { s.capture with sums := s.capture.sums.add arr.rates, count := s.capture.count + 1 } := by
  simp [State.captureStep, running, source, still, last]

end capture

/-- The words that the end of a capture of a source may mark. -/
def captureWords (src : Source) : List ReportWord := [.eventPending, .zeroResult, .biasX src, .biasY src, .biasZ src]

theorem reports_completeCapture (s : State) (c : Capture) :
    Reports s (s.completeCapture c) [.zeroDone] [.biasX c.source, .biasY c.source, .biasZ c.source, .zeroResult] := by
  have biased := ((reports_mark ({ s with bias := s.bias.set c.source c.sums.mean } : State) (.biasX c.source)).trans
    (reports_mark _ (.biasY c.source))).trans (reports_mark _ (.biasZ c.source))
  have ended := (biased.trans (reports_endCapture _ c (.done c.source))).after (s := s) rfl
  exact ended.congr (fun e => by simp) fun w => by simp

theorem reportsWithin_captureStep (s : State) (arr : Arrival) :
    ReportsWithin s (s.captureStep arr) [.zeroDone] (captureWords arr.source) := by
  by_cases feeds : s.capture.state = .running ∧ s.capture.source = arr.source
  · obtain ⟨running, source⟩ := feeds
    cases still : arr.rates.still s.page.stillness with
    | false =>
      rw [State.captureStep_of_moving running source still]
      exact (reports_endCapture _ _ _).tells.within.mono (by simp) (by simp [captureWords])
    | true =>
      by_cases last : s.capture.count + 1 = 1024
      · rw [State.captureStep_of_last running source still last]
        exact (reports_completeCapture _ _).tells.within.mono (by simp) (by simp [captureWords, source])
      · rw [State.captureStep_of_more running source still last]
        exact .of_report rfl _ _
  · have out : s.capture.state = .idle ∨ s.capture.source ≠ arr.source := by
      cases state : s.capture.state <;> simp_all
    rw [State.captureStep, if_pos out]
    exact .of_report rfl _ _

theorem State.completeCapture_bias (s : State) (c : Capture) : (s.completeCapture c).bias = s.bias.set c.source c.sums.mean := by
  simp [State.completeCapture]

theorem State.captureStep_bias_other (s : State) (arr : Arrival) :
    (s.captureStep arr).bias.get (otherSource arr.source) = s.bias.get (otherSource arr.source) := by
  unfold State.captureStep
  simp only []
  split
  · rfl
  next feeds =>
    have source : s.capture.source = arr.source := by
      by_contra other
      exact feeds (.inr other)
    split_ifs
    · simp
    · rw [State.completeCapture_bias, PerSource.get_set, source, if_neg (otherSource_ne arr.source)]
    · rfl

/-! ### An arrival as a whole -/

section arrival

variable (s : State) (arr : Arrival)

/-- The state in which the capture has its turn at an arrival. -/
def State.leveledArrival : State := (s.axesArrived arr).burstStep.updateLevel (s.axisRate arr)

theorem State.arrival_eq_captureStep : s.arrival arr = (s.leveledArrival arr).captureStep arr := rfl

theorem State.leveledArrival_frame :
    (s.leveledArrival arr).capture = s.capture ∧ (s.leveledArrival arr).zeroResult = s.zeroResult ∧ (s.leveledArrival arr).bias = s.bias ∧
      (s.leveledArrival arr).page = s.page := by
  obtain ⟨page, -, -, -, capture, zeroResult, bias⟩ := s.axesArrived_frame arr
  simp [State.leveledArrival, page, capture, zeroResult, bias]

theorem State.arrival_severity :
    (s.arrival arr).severity = severityArrived s.page (isRough s.page (s.axisRate arr)) s.severity := by
  obtain ⟨page, severity, -⟩ := s.axesArrived_frame arr
  rw [State.arrival_eq, (State.captureStep_frame _ _).2.2.2.2.2.2.2.2.1, State.updateLevel_severity]
  simp [page, severity]

theorem reportsWithin_updateLevel (d : AxisId → Int) : ReportsWithin s (s.updateLevel d) [.severityEnter] [.eventPending, .severity] := by
  refine (reports_updateLevel s d).tells.within.mono ?_ ?_
  · unfold enterEvents
    split <;> simp
  · unfold severityWords
    split <;> simp

/-- The stages of an arrival after the turns of the axes: what they may report. -/
theorem reportsWithin_arrival_after_axes :
    ReportsWithin (s.axesArrived arr) (s.arrival arr) [.exciteDone, .severityEnter, .zeroDone]
      (.exciteResult :: .severity :: captureWords arr.source) := by
  rw [State.arrival_eq]
  refine ((reportsWithin_captureStep _ arr).mono (by simp) (by simp [captureWords])).comp ?_
  refine ((reportsWithin_updateLevel _ _).mono (by simp) (by simp [captureWords])).comp ?_
  exact (reportsWithin_burstStep _).mono (by simp) (by simp [captureWords])

theorem outputDirty_arrival {a : AxisId} (composes : (s.axis a).state.composes = true) : OutputDirty (s.arrival arr) a :=
  (outputDirty_axesArrived arr composes).of_within (reportsWithin_arrival_after_axes s arr) (by simp [captureWords])

theorem reports_leveledArrival :
    Reports (s.axesArrived arr).burstStep (s.leveledArrival arr) (enterEvents s.severity (s.leveledArrival arr).severity)
      (severityWords s.severity (s.leveledArrival arr).severity) := by
  obtain ⟨-, severity, -⟩ := s.axesArrived_frame arr
  have start : (s.axesArrived arr).burstStep.severity = s.severity := by simp [severity]
  have judged := reports_updateLevel (s.axesArrived arr).burstStep (s.axisRate arr)
  rw [start] at judged
  exact judged

/-- What an arrival shows of the road. -/
theorem arrival_tells_severity :
    (s.arrival arr).isDirty .severity =
        (s.isDirty .severity || decide (((s.arrival arr).severity.level, (s.arrival arr).severity.state) ≠ (s.severity.level, s.severity.state))) ∧
      (s.arrival arr).isPending .severityEnter =
        (s.isPending .severityEnter || decide (s.severity.state = .calm ∧ (s.arrival arr).severity.state ≠ .calm)) := by
  have axes := reportsWithin_axesArrived s arr
  have burst := reportsWithin_burstStep (s.axesArrived arr)
  have capture := reportsWithin_captureStep (s.leveledArrival arr) arr
  have judged := reports_leveledArrival s arr
  have apart : ReportWord.severity ∉ axesWords := by simp [axesWords, arrivedWords]
  have last : (s.arrival arr).severity = (s.leveledArrival arr).severity := by rw [State.arrival_eq_captureStep]; simp
  rw [last, State.arrival_eq_captureStep, capture.2 .severity (by simp [captureWords]), capture.1 .severityEnter (by simp), judged.2 .severity,
    judged.1 .severityEnter, burst.2 .severity (by simp), burst.1 .severityEnter (by simp), axes.2 _ apart, axes.1 _ (by simp)]
  refine ⟨?_, ?_⟩
  · rw [Bool.or_assoc]
    congr 1
    simp [severityWords]
  · congr 1
    simp [enterEvents]

end arrival

/-! ### The frame of the selected source -/

/-- The arrival record of a frame of a LIVE source. -/
def arrivalOf (s : State) (line : Source) (f : List Byte) : Arrival :=
  { source := line, rates := frameRates f, gap := gapOf (s.link line) f }

/-- The state with the record of an accepted frame. -/
def State.accepted (s : State) (line : Source) (f : List Byte) : State := s.setLink line (acceptedRecord (s.link line) f)

theorem judgeFrame_of_acceptable {s : State} {line : Source} {f : List Byte} (good : Acceptable f) :
    s.judgeFrame line f = s.acceptFrame line f := by
  obtain ⟨passes, selfTest⟩ := good
  simp [State.judgeFrame, passes, selfTest]

section ready

variable {s : State} {line : Source} {f : List Byte} (ready : ArrivalReady s line f)
include ready

theorem ArrivalReady.exec : exec (.inertialFrame line) s = .next ((s.accepted line f).arrival (arrivalOf s line f)) := by
  obtain ⟨frame, good, live, selected, -⟩ := ready
  have seen : s.frameSeen line f = s.accepted line f := if_pos live
  have same : (s.accepted line f).selected = some line := selected
  rw [frame.exec, judgeFrame_of_acceptable good, State.acceptFrame_eq, seen, if_pos same, sequenceGap_of_live live]
  rfl

theorem ArrivalReady.active : (s.accepted line f).profileActive = true := ready.2.2.2.2

theorem ArrivalReady.axis (a : AxisId) : ((s.accepted line f).arrival (arrivalOf s line f)).axis a =
    arrivedAxis s a (disturbance s line (frameRates f) a) (gapOf (s.link line) f) :=
  State.axis_arrived ready.active _ a

end ready

/-- Settles O13: the turns of the axes, whose marks the stages after them leave. -/
theorem arrivalIntegratesAndComposes : Obligations.ArrivalIntegratesAndComposes := by
  intro s line f ready
  refine ⟨_, ready.exec, ready.axis, fun a composes => ?_, ?_, ?_⟩
  · exact outputDirty_arrival (s.accepted line f) _ ((AxisState.composes_iff _).mpr composes)
  · exact (sameDeviceFlags_iff _ _).mpr (axisRun_arrival (s.accepted line f) (arrivalOf s line f)).device
  · apply State.eq_of_fields <;> simp [State.accepted, State.setLink]

/-- Settles O14: the level update judges the road, and no other stage writes or marks the severity. -/
theorem arrivalJudgesTheRoad : Obligations.ArrivalJudgesTheRoad := by
  intro s line f ready
  let t := (s.accepted line f).arrival (arrivalOf s line f)
  have shown : t.isDirty .severity =
      (s.isDirty .severity || decide ((t.severity.level, t.severity.state) ≠ (s.severity.level, s.severity.state))) :=
    (arrival_tells_severity (s.accepted line f) (arrivalOf s line f)).1
  refine ⟨t, ready.exec, ⟨_, isRough_iff s.page _, State.arrival_severity (s.accepted line f) _⟩, fun changed => ?_, fun same => ?_,
    (arrival_tells_severity (s.accepted line f) (arrivalOf s line f)).2⟩
  · rw [shown, decide_eq_true changed, Bool.or_true]
  · rw [shown, decide_eq_false (not_not.mpr same), Bool.or_false]

/-! ### The burst and the capture -/

theorem burstStep_tells_of_more {s : State} (running : s.burst.state = .running) (more : 2 ≤ s.burst.remaining) :
    s.burstStep.burst = burstAdvanced s.burst ∧ s.burstStep.exciteResult = s.exciteResult := by
  rw [State.burstStep_of_more running more]
  exact ⟨rfl, rfl⟩

theorem burstStep_tells_of_last {s : State} (running : s.burst.state = .running) (last : s.burst.remaining = 1) :
    s.burstStep.burst = (burstAdvanced s.burst).ended ∧ s.burstStep.exciteResult = .done s.burst.axis ∧
      s.burstStep.isPending .exciteDone = true ∧ s.burstStep.isDirty .exciteResult = true := by
  have told := reports_endBurst s (burstAdvanced s.burst) (.done s.burst.axis)
  rw [State.burstStep_of_last running last]
  exact ⟨by simp [State.endBurst], by simp [State.endBurst], told.isPending (by simp), told.isDirty (by simp)⟩

/-- What the end of a capture by its 1,024th arrival leaves. -/
def CaptureDone (s t : State) (src : Source) (means : Channels) : Prop :=
  t.capture.state = .idle ∧ t.zeroResult = .done src ∧ t.isPending .zeroDone = true ∧ t.isDirty .zeroResult = true ∧
    t.bias = s.bias.set src means ∧ t.isDirty (.biasX src) = true ∧ t.isDirty (.biasY src) = true ∧ t.isDirty (.biasZ src) = true

theorem captureDone_completeCapture (s : State) (c : Capture) : CaptureDone s (s.completeCapture c) c.source c.sums.mean := by
  have told := reports_completeCapture s c
  exact ⟨by simp [State.completeCapture, State.endCapture], by simp [State.completeCapture, State.endCapture],
    told.isPending (by simp), told.isDirty (by simp), State.completeCapture_bias s c, told.isDirty (by simp), told.isDirty (by simp),
    told.isDirty (by simp)⟩

section capture

variable {s : State} {arr : Arrival} (running : s.capture.state = .running) (source : s.capture.source = arr.source)
include running source

theorem captureStep_tells_of_moving (moving : arr.rates.still s.page.stillness = false) :
    (s.captureStep arr).capture.state = .idle ∧ (s.captureStep arr).bias = s.bias ∧
      (s.captureStep arr).zeroResult = .moving arr.source ∧ (s.captureStep arr).isPending .zeroDone = true ∧
      (s.captureStep arr).isDirty .zeroResult = true := by
  have told := reports_endCapture s s.capture (.moving arr.source)
  rw [State.captureStep_of_moving running source moving]
  exact ⟨by simp [State.endCapture], by simp, by simp [State.endCapture], told.isPending (by simp), told.isDirty (by simp)⟩

theorem captureStep_tells_of_last (still : arr.rates.still s.page.stillness = true) (last : s.capture.count + 1 = 1024) :
    CaptureDone s (s.captureStep arr) arr.source (s.capture.sums.add arr.rates).mean := by
  rw [State.captureStep_of_last running source still last, ← source]
  exact captureDone_completeCapture s _

end capture

section stages

variable (s : State) (arr : Arrival)

theorem State.arrival_burst : (s.arrival arr).burst = (s.axesArrived arr).burstStep.burst ∧
    (s.arrival arr).exciteResult = (s.axesArrived arr).burstStep.exciteResult := by
  simp [State.arrival_eq]

theorem State.arrival_burst_of_idle (idle : s.burst.state = .idle) :
    (s.arrival arr).burst = s.burst ∧ (s.arrival arr).exciteResult = s.exciteResult := by
  obtain ⟨-, -, burst, exciteResult, -⟩ := s.axesArrived_frame arr
  obtain ⟨burst', exciteResult'⟩ := s.arrival_burst arr
  rw [State.burstStep_of_idle (by rw [burst, idle])] at burst' exciteResult'
  exact ⟨burst'.trans burst, exciteResult'.trans exciteResult⟩

theorem State.arrival_burst_of_more (running : s.burst.state = .running) (more : 2 ≤ s.burst.remaining) :
    (s.arrival arr).burst = burstAdvanced s.burst ∧ (s.arrival arr).exciteResult = s.exciteResult := by
  obtain ⟨-, -, burst, exciteResult, -⟩ := s.axesArrived_frame arr
  obtain ⟨burst', exciteResult'⟩ := s.arrival_burst arr
  obtain ⟨advanced, same⟩ := burstStep_tells_of_more (s := s.axesArrived arr) (by rw [burst, running]) (by rw [burst]; exact more)
  rw [burst', exciteResult', advanced, same, burst, exciteResult]
  exact ⟨rfl, rfl⟩

theorem State.arrival_burst_of_last (running : s.burst.state = .running) (last : s.burst.remaining = 1) :
    (s.arrival arr).burst = (burstAdvanced s.burst).ended ∧ (s.arrival arr).exciteResult = .done s.burst.axis ∧
      (s.arrival arr).isPending .exciteDone = true ∧ (s.arrival arr).isDirty .exciteResult = true := by
  obtain ⟨-, -, burst, -⟩ := s.axesArrived_frame arr
  obtain ⟨ended, done, raised, marked⟩ := burstStep_tells_of_last (s := s.axesArrived arr) (by rw [burst, running])
    (by rw [burst]; exact last)
  obtain ⟨burst', exciteResult'⟩ := s.arrival_burst arr
  have level := reportsWithin_updateLevel (s.axesArrived arr).burstStep (s.axisRate arr)
  have capture := reportsWithin_captureStep (s.leveledArrival arr) arr
  rw [burst', exciteResult', State.arrival_eq_captureStep, capture.1 _ (by simp), capture.2 _ (by simp [captureWords]),
    State.leveledArrival, level.1 _ (by simp), level.2 _ (by simp), ended, done, raised, marked, burst]
  exact ⟨rfl, rfl, rfl, rfl⟩

end stages

/-- Settles O15: each of the two stages by what it finds. -/
theorem arrivalFeedsTheBurstAndTheCapture : Obligations.ArrivalFeedsTheBurstAndTheCapture := by
  intro s line f ready r moving
  let v := s.accepted line f
  let arr := arrivalOf s line f
  obtain ⟨capture, zeroResult, bias, page⟩ := v.leveledArrival_frame arr
  have stillness : arr.rates.still (v.leveledArrival arr).page.stillness = false ↔ moving := by
    rw [page]
    exact Channels.still_eq_false_iff _ _
  refine ⟨_, ready.exec, ?_, v.arrival_burst_of_idle arr, fun running => ⟨v.arrival_burst_of_more arr running, fun last => ?_⟩, fun idle => ?_,
    fun c here running source => ?_⟩
  · exact (State.captureStep_bias_other (v.leveledArrival arr) arr).trans (congrArg (PerSource.get · (otherSource line)) bias)
  · obtain ⟨burst, rest⟩ := v.arrival_burst_of_last arr running last
    have remaining : (burstAdvanced s.burst).remaining = 0 := by rw [burstAdvanced_remaining, last]
    rw [burst]
    exact ⟨rfl, rfl, remaining, rest⟩
  · rw [State.arrival_eq_captureStep, State.captureStep_of_idle (by rw [capture]; exact idle)]
    exact ⟨capture, bias, zeroResult⟩
  · subst here
    have feeds : (v.leveledArrival arr).capture = s.capture := capture
    have running' : (v.leveledArrival arr).capture.state = .running := by rw [feeds, running]
    have source' : (v.leveledArrival arr).capture.source = arr.source := by rw [feeds, source]; rfl
    have still : ¬ moving → arr.rates.still (v.leveledArrival arr).page.stillness = true := fun stays => by
      rwa [← Bool.not_eq_false, stillness]
    refine ⟨fun moves => ?_, fun stays more => ?_, fun stays last => ?_⟩
    · obtain ⟨idle, kept, rest⟩ := captureStep_tells_of_moving running' source' (stillness.mpr moves)
      exact ⟨idle, kept.trans bias, rest⟩
    · have step := State.captureStep_of_more running' source' (still stays) (by rw [feeds]; exact more)
      rw [feeds] at step
      rw [State.arrival_eq_captureStep, step]
      exact ⟨rfl, bias, zeroResult⟩
    · obtain ⟨idle, done, raised, marked, means, biased⟩ :=
        captureStep_tells_of_last running' source' (still stays) (by rw [feeds]; exact last)
      refine ⟨idle, done, raised, marked, ?_, biased⟩
      rw [feeds] at means
      rw [State.arrival_eq_captureStep, means]
      exact PerSource.get_set_same _ _ _

end Sys2Proof.Machine
end

section
/-! The frame of a source that becomes LIVE (R12, R16 to R18): the selection that it brings about, and the arrival that it is itself. -/

namespace Sys2Proof.Machine

/-! ### What an arrival leaves where no capture and no burst runs -/

section arrival

variable (s : State) (arr : Arrival)

/-- The events that the stages of an arrival may raise. -/
def arrivalEvents : List Event := [.faultCleared, .exciteDone, .severityEnter, .zeroDone]

/-- The words that the stages of an arrival of a source may mark. -/
def arrivalWords (src : Source) : List ReportWord := axesWords ++ .exciteResult :: .severity :: captureWords src

theorem reportsWithin_arrival : ReportsWithin s (s.arrival arr) arrivalEvents (arrivalWords arr.source) :=
  ((reportsWithin_arrival_after_axes s arr).mono (by simp [arrivalEvents]) (by simp [arrivalWords])).comp
    ((reportsWithin_axesArrived s arr).mono (by simp [arrivalEvents]) (by simp [arrivalWords]))

theorem captureCut_arrival_of_idle (idle : s.capture.state = .idle) : CaptureCut s (s.arrival arr) False := by
  obtain ⟨capture, zeroResult, -⟩ := s.leveledArrival_frame arr
  have axes := reportsWithin_axesArrived s arr
  have burst := reportsWithin_burstStep (s.axesArrived arr)
  have level := reportsWithin_updateLevel (s.axesArrived arr).burstStep (s.axisRate arr)
  have apart : ReportWord.zeroResult ∉ axesWords := by simp [axesWords, arrivedWords]
  rw [State.arrival_eq_captureStep, State.captureStep_of_idle (by rw [capture, idle])]
  exact ⟨False.elim, fun _ => ⟨capture, zeroResult, (level.1 _ (by simp)).trans ((burst.1 _ (by simp)).trans (axes.1 _ (by simp))),
    (level.2 _ (by simp)).trans ((burst.2 _ (by simp)).trans (axes.2 _ apart))⟩⟩

theorem burstCut_arrival_of_idle (idle : s.burst.state = .idle) : BurstCut s (s.arrival arr) False := by
  obtain ⟨-, -, burst, -⟩ := s.axesArrived_frame arr
  obtain ⟨same, result⟩ := s.arrival_burst_of_idle arr idle
  have axes := reportsWithin_axesArrived s arr
  have level := reportsWithin_updateLevel (s.axesArrived arr).burstStep (s.axisRate arr)
  have capture := reportsWithin_captureStep (s.leveledArrival arr) arr
  have step : (s.axesArrived arr).burstStep = s.axesArrived arr := State.burstStep_of_idle (by rw [burst, idle])
  have apart : ReportWord.exciteResult ∉ axesWords := by simp [axesWords, arrivedWords]
  rw [step] at level
  refine ⟨False.elim, fun _ => ⟨same, result, ?_, ?_⟩⟩
  · rw [State.arrival_eq_captureStep, capture.1 _ (by simp), State.leveledArrival, step, level.1 _ (by simp), axes.1 _ (by simp)]
  · rw [State.arrival_eq_captureStep, capture.2 _ (by simp [captureWords]), State.leveledArrival, step, level.2 _ (by simp), axes.2 _ apart]

theorem arrival_bias_of_idle (idle : s.capture.state = .idle) : (s.arrival arr).bias = s.bias := by
  obtain ⟨capture, -, bias, -⟩ := s.leveledArrival_frame arr
  rw [State.arrival_eq_captureStep, State.captureStep_of_idle (by rw [capture, idle]), bias]

end arrival

/-! ### An axis's record at the arrival -/

theorem sourceHolds_state (s : State) (p : Page) (new : Option Source) (ax : Axis) :
    (sourceHolds s p new ax).state = ax.state ∨ (sourceHolds s p new ax).state = .held := by
  have held : ∀ c, (heldBy c ax).state = ax.state ∨ (heldBy c ax).state = .held := fun c => by
    cases state : ax.state <;> simp [heldBy, state]
  unfold sourceHolds
  split_ifs
  · exact held _
  · exact held _
  · exact .inl rfl

/-- An axis's record after an arrival reads the profile, the severity state, the axis and, where it composes, the excitation. -/
theorem arrivedAxis_congr {s t : State} {a : AxisId} (axis : t.axis a = s.axis a) (page : t.page = s.page) (severity : t.severity = s.severity)
    (excitation : (s.axis a).state.composes = true → t.excitation a = s.excitation a) (d : Int) (gap : Nat) :
    arrivedAxis t a d gap = arrivedAxis s a d gap := by
  have theta : integratedTheta t a d gap = integratedTheta s a d gap := by simp [integratedTheta, axis, page, severity]
  unfold arrivedAxis
  cases composes : (s.axis a).state.composes with
  | true => rw [theta, axis, page, severity, excitation composes]
  | false => cases state : (s.axis a).state <;> simp [state, AxisState.composes, axis, theta] at composes ⊢

/-- A change of the selection to a source aborts a burst only on an axis that it holds; the excitation of the others stands. -/
theorem select_excitation {s : State} (active : s.profileActive = true) {new : Option Source} (change : s.selected ≠ new)
    (source : new ≠ none) {a : AxisId} (composes : ((s.select new).axis a).state.composes = true) :
    (s.select new).excitation a = s.excitation a := by
  have cut := (sourceMoved_select active change).burst
  by_cases moved : BurstAxisMoved s (s.select new)
  · obtain ⟨idle, -⟩ := cut.1 (.inr moved)
    have other : ¬ (s.burst.state = .running ∧ s.burst.axis = a) := fun ⟨_, here⟩ => by
      subst here
      have stays := moved.2
      rw [State.axis_select active change] at stays composes
      obtain same | held := sourceHolds_state s s.page new (s.axis s.burst.axis)
      · exact stays same
      · simp [held, AxisState.composes] at composes
    rw [State.excitation, State.excitation, if_neg other, if_neg (by simp [idle])]
  · exact State.excitation_congr (cut.2 (by simp [source, moved])).1 a

/-! ### The selection -/

section ready

variable {s : State} {line : Source} {f : List Byte}

/-- The state of the frame of a source that becomes LIVE when the selection is reviewed. -/
def State.becameLive (s : State) (line : Source) (f : List Byte) : State := (s.accepted line f).mark .sourceState

theorem reports_becameLive (s : State) (line : Source) (f : List Byte) : Reports s (s.becameLive line f) [] [.sourceState] :=
  (reports_mark (s.accepted line f) .sourceState).after rfl

theorem State.becameLive_sourceToSelect :
    (s.becameLive line f).sourceToSelect =
      if s.page.primary = line ∨ (s.link s.page.primary).state = .live then some s.page.primary
      else if s.page.fallback = true then some line else none := by
  have page : (s.becameLive line f).page = s.page := rfl
  have link : ∀ src, (s.becameLive line f).link src = if src = line then acceptedRecord (s.link line) f else s.link src := fun src =>
    State.link_setLink s line src _
  have live : ∀ src, (s.becameLive line f).isLive src = decide (src = line ∨ (s.link src).state = .live) := fun src => by
    rw [State.isLive, link, Bool.eq_iff_iff]
    by_cases here : src = line
    · simp [here, acceptedRecord]
    · simp [here]
  rw [State.sourceToSelect, live, live, page]
  by_cases primary : s.page.primary = line ∨ (s.link s.page.primary).state = .live
  · simp [primary]
  · have other : otherSource s.page.primary = line := by
      cases primary : s.page.primary <;> cases line <;> simp_all [otherSource]
    simp [primary, other]

theorem State.acceptFrame_of_becomes (active : s.profileActive = true) (unselected : s.selected = none) (becomes : (s.link line).state ≠ .live) :
    s.acceptFrame line f =
      let u := (s.becameLive line f).select (s.becameLive line f).sourceToSelect
      if u.selected = some line then u.arrival { source := line, rates := frameRates f, gap := 0 } else u := by
  have review : (s.becameLive line f).reviewSelection = (s.becameLive line f).select (s.becameLive line f).sourceToSelect := by
    have active' : (s.becameLive line f).profileActive = true := active
    have unselected' : (s.becameLive line f).selected = none := unselected
    simp [State.reviewSelection, active', unselected']
  have seen : s.frameSeen line f = (s.becameLive line f).select (s.becameLive line f).sourceToSelect :=
    (if_neg becomes).trans review
  rw [State.acceptFrame_eq, seen, sequenceGap, if_neg becomes]

end ready

/-- What may follow the selection of a source at the end of a frame: nothing, or the arrival of the source. -/
structure Follows (line : Source) (u t : State) : Prop where
  within : ReportsWithin u t arrivalEvents (arrivalWords line)
  capture : CaptureCut u t False
  burst : u.burst.state = .idle → BurstCut u t False
  bias : t.bias = u.bias
  device : t.deviceFlags = u.deviceFlags
  fields : t = { u with
    bias := t.bias, capture := t.capture, zeroResult := t.zeroResult, axes := t.axes, severity := t.severity, burst := t.burst
    exciteResult := t.exciteResult, faults := t.faults, report := t.report }

theorem follows_refl (line : Source) (u : State) : Follows line u u where
  within := .of_report rfl _ _
  capture := ⟨False.elim, fun _ => ⟨rfl, rfl, rfl, rfl⟩⟩
  burst _ := ⟨False.elim, fun _ => ⟨rfl, rfl, rfl, rfl⟩⟩
  bias := rfl
  device := rfl
  fields := rfl

theorem follows_arrival {u : State} (idle : u.capture.state = .idle) (arr : Arrival) : Follows arr.source u (u.arrival arr) where
  within := reportsWithin_arrival u arr
  capture := captureCut_arrival_of_idle u arr idle
  burst := burstCut_arrival_of_idle u arr
  bias := arrival_bias_of_idle u arr idle
  device := (axisRun_arrival u arr).device
  fields := by apply State.eq_of_fields <;> simp

/-- A selection that finds a source leaves no capture running. -/
theorem SourceMoved.capture_idle {s t : State} {new : Option Source} (h : SourceMoved s new t) : t.capture.state = .idle := by
  cases state : s.capture.state with
  | running => exact (h.capture.1 state).1
  | idle => rw [(h.capture.2 (by simp [state])).1, state]

section selected

variable {s : State} {line : Source} {f : List Byte} {new : Option Source} {t : State}

/-- What the frame leaves where a source is selected, whether or not the arrival follows. -/
theorem selected_leaves (moved : SourceMoved (s.becameLive line f) new ((s.becameLive line f).select new)) (some : new ≠ none)
    (follows : Follows line ((s.becameLive line f).select new) t) :
    t.selected = new ∧ t.links = s.links.set line (acceptedRecord (s.link line) f) ∧ t.isDirty .sourceState = true ∧
      (t.isPending .sourceSwitch = true ∧ t.faults.sourceLost = false ∧ t.faults.sourceFallback = decide (new ≠ Option.some s.page.primary)) ∧
      CaptureCut s t (s.capture.state = .running ∧ new ≠ none) ∧ t.bias = s.bias ∧ (s.burst.state = .idle → BurstCut s t False) ∧
      t = { s with
        links := t.links, selected := t.selected, capture := t.capture, zeroResult := t.zeroResult, axes := t.axes
        severity := t.severity, burst := t.burst, exciteResult := t.exciteResult, faults := t.faults, report := t.report } := by
  let v := s.becameLive line f
  have told : Reports s v [] [.sourceState] := reports_becameLive s line f
  have fields := State.select_fields v new
  have bias : t.bias = s.bias := by rw [follows.bias, fields]; rfl
  obtain ⟨lost, fallback, -⟩ := moved.flags
  have device := follows.device
  simp only [State.deviceFlags, Prod.mk.injEq] at device
  obtain ⟨lost', fallback', -⟩ := device
  have captureLeft : CaptureCut s v False := captureCut_of_tells told.tells (by simp) (by simp) rfl rfl
  have burstLeft : BurstCut s v False := burstCut_of_reports told (by simp) (by simp) rfl rfl
  have apart : ReportWord.sourceState ∉ arrivalWords line := by simp [arrivalWords, axesWords, arrivedWords, captureWords]
  refine ⟨?_, ?_, (follows.within.2 _ apart).trans moved.shown, ⟨(follows.within.1 _ (by simp [arrivalEvents])).trans moved.switch, ?_, ?_⟩,
    ?_, bias, fun idle => ?_, ?_⟩
  · rw [follows.fields, State.select_selected]
  · rw [follows.fields, fields]; rfl
  · rw [lost', lost]; simpa using some
  · rw [fallback', fallback]
    have page : (s.becameLive line f).page = s.page := rfl
    rw [page]
    cases new with
    | none => exact absurd rfl some
    | some src => cases src <;> cases s.page.primary <;> decide
  · exact ((moved.capture.before follows.capture).after captureLeft).congr (by simp [some]; rfl)
  · have idle' : v.burst.state = .idle := idle
    have unmoved : ¬ BurstAxisMoved v (v.select new) := fun ⟨running, _⟩ => by simp [idle'] at running
    have moves : BurstCut v (v.select new) False := moved.burst.congr (iff_of_false id fun
      | .inl ⟨running, _⟩ => by rw [idle'] at running; cases running
      | .inr axis => unmoved axis)
    have still : (v.select new).burst.state = .idle := by rw [(moves.2 id).1, idle']
    exact (moves.before (follows.burst still)).after burstLeft
  · rw [follows.fields, fields, bias]
    rfl

end selected

/-- Settles O11: with no source to select the record is all; with another than the frame's own the selection follows; and with its own the
arrival follows the selection. -/
theorem sourceBecomingLiveIsSelected : Obligations.SourceBecomingLiveIsSelected := by
  intro s line f ready good active unselected becomes new held
  let v := s.becameLive line f
  have toSelect : v.sourceToSelect = new := State.becameLive_sourceToSelect
  have told : Reports s v [] [.sourceState] := reports_becameLive s line f
  have run : exec (.inertialFrame line) s = .next (if (v.select new).selected = some line then
      (v.select new).arrival { source := line, rates := frameRates f, gap := 0 } else v.select new) := by
    rw [ready.exec, judgeFrame_of_acceptable good, State.acceptFrame_of_becomes active unselected becomes]
    rw [← toSelect]
  rw [State.select_selected] at run
  have unselected' : v.selected = none := unselected
  by_cases none : new = none
  · have same : v.select new = v := by
      rw [none, ← unselected']
      exact State.select_same v
    rw [same, if_neg (by simp [none])] at run
    refine ⟨v, run, ?_, rfl, told.isDirty (by simp), fun _ => ⟨rfl, told⟩, fun some => absurd none some, fun some => absurd none some,
      fun some => ?_, ?_, rfl, fun _ => ?_, rfl⟩
    · exact unselected.trans none.symm
    · simp [none] at some
    · exact (captureCut_of_tells told.tells (by simp) (by simp) rfl rfl).congr (by simp [none])
    · exact burstCut_of_reports told (by simp) (by simp) rfl rfl
  have active' : v.profileActive = true := active
  have change : v.selected ≠ new := by
    rw [unselected']
    exact Ne.symm none
  have moved := sourceMoved_select active' change
  have axis : ∀ a, (v.select new).axis a = held.axis a := fun a => by
    have holds : held.axis a = sourceHolds s s.page new (s.axis a) := by simp [held, State.axis]
    rw [State.axis_select active' change, holds]
    rfl
  have stands : (v.select new).page = s.page ∧ (v.select new).bias = s.bias ∧ (v.select new).severity = s.severity ∧
      (v.select new).profileActive = s.profileActive := by
    rw [State.select_fields]
    exact ⟨rfl, rfl, rfl, rfl⟩
  by_cases own : new = some line
  · have leaves := selected_leaves moved none (follows_arrival moved.capture_idle { source := line, rates := frameRates f, gap := 0 })
    obtain ⟨selected, links, shown, switch, capture, bias, burst, fields⟩ := leaves
    rw [if_pos own] at run
    have rate : ∀ a, disturbance (v.select new) line (frameRates f) a = disturbance s line (frameRates f) a := fun a => by
      simp only [disturbance, stands.1, stands.2.1]
    refine ⟨_, run, selected, links, shown, fun no => absurd no none, fun _ => switch, fun _ other => absurd own other, fun _ => ⟨fun a => ?_,
      fun a composes => ?_, ?_⟩, capture, bias, burst, fields⟩
    · rw [State.axis_arrived (stands.2.2.2.trans active), rate]
      refine arrivedAxis_congr (axis a) stands.1 stands.2.2.1 (fun composes => ?_) _ _
      rw [← axis a] at composes
      exact select_excitation active' change none composes
    · refine outputDirty_arrival (v.select new) _ ?_
      rw [axis a]
      exact (AxisState.composes_iff _).mpr composes
    · refine ⟨_, isRough_iff s.page _, ?_⟩
      rw [State.arrival_severity, stands.1, stands.2.2.1]
      exact congrArg (fun d => severityArrived s.page (isRough s.page d) s.severity) (funext rate)
  · obtain ⟨selected, links, shown, switch, capture, bias, burst, fields⟩ := selected_leaves moved none (follows_refl line _)
    rw [if_neg own] at run
    refine ⟨_, run, selected, links, shown, fun no => absurd no none, fun _ => switch, fun _ _ => ⟨?_, ?_⟩, fun yes => absurd yes own,
      capture, bias, burst, fields⟩
    · exact State.axes_eq axis
    · exact stands.2.2.1

end Sys2Proof.Machine
end

section
/-! What an accepted apply makes of the blocks before the selection is reviewed (R53, R62, R97, R117, R148, R154, R160). -/

namespace Sys2Proof.Machine

/-! ### What has changed -/

theorem tableChanged_iff (old : Option Page) (p : Page) : tableChanged old p = true ↔ tableNew old p := by
  cases old <;> simp [tableChanged, tableNew]

theorem ringNew_iff (old : Option Page) (p : Page) : ringNew old p ↔ old.map Page.ringSettings ≠ some p.ringSettings := by
  cases old <;> simp [ringNew, Page.ringSettings]

theorem boostNew_iff (old : Option Page) (p : Page) : boostNew old p ↔ old.map Page.boostSettings ≠ some p.boostSettings := by
  cases old <;> simp [boostNew, Page.boostSettings]

theorem retabled_retabledAxis (old : Option Page) (p : Page) (ax : Axis) : retabled old p ax (retabledAxis old p ax) := by
  unfold retabled retabledAxis
  rw [← tableChanged_iff]
  cases tableChanged old p <;> simp

/-! ### The blocks, one by one -/

/-- The boost value held after an accepted apply (R117). -/
def boostAfter (old : Option Page) (p : Page) (v : Severity) : Option Word :=
  if p.boostEnable = false then none
  else if old.map Page.boostSettings = some p.boostSettings then v.boostHeld
  else some (p.boostValue v.state)

theorem State.takeUpBoost_severity (s : State) (old : Option Page) :
    (s.takeUpBoost old).severity = { s.severity with
      boostHeld := boostAfter old s.page s.severity } := by
  unfold State.takeUpBoost boostAfter
  cases enable : s.page.boostEnable with
  | false => simp
  | true =>
    by_cases same : old.map Page.boostSettings = some s.page.boostSettings
    · simp [same]
    · simp [same, State.holdBoost_eq, enable]

theorem State.takeUpRate_of_same {s : State} (same : s.page.frameRate = some s.timecode.rate) : s.takeUpRate = s := by
  simp [State.takeUpRate, same]

theorem State.takeUpRate_of_new {s : State} {r : FrameRate} (rate : s.page.frameRate = some r) (new : r ≠ s.timecode.rate) :
    s.takeUpRate = { s with timecode := { s.timecode with rate := r, valid := false, pendingSet := none } }.mark .timecodeState := by
  simp [State.takeUpRate, rate, new]

theorem reportsWithin_takeUpRate (s : State) : ReportsWithin s s.takeUpRate [] [.eventPending, .timecodeState] := by
  unfold State.takeUpRate
  split
  · exact .of_report rfl _ _
  · split
    · exact .of_report rfl _ _
    · exact ((reports_mark _ _).after (s := s) rfl).tells.within.mono (by simp) (by simp)

theorem MTxn.orphan_eq (w : MTxn) : w.orphan = if w.kind = .ringWord true then { w with kind := .ringWord false } else w := by
  obtain ⟨kind, addr, data, lanes⟩ := w
  cases kind with
  | ringWord staged => cases staged <;> rfl
  | _ => rfl

theorem reports_restartRing (s : State) : Reports s s.restartRing [] [.ringProducer, .ringConsumer] :=
  ((reports_mark _ _).trans (reports_mark _ _)).after rfl

theorem reportsWithin_takeUpRing (s : State) (old : Option Page) :
    ReportsWithin s (s.takeUpRing old) [] [.eventPending, .ringProducer, .ringConsumer] := by
  unfold State.takeUpRing
  split
  · exact .of_report rfl _ _
  · exact (reports_restartRing s).tells.within.mono (by simp) (by simp)

/-! ### The state in which the selection is reviewed -/

/-- The state in which the window table, the axes' counts and the profile are taken up. -/
def State.tabled (s : State) : State := (s.activateProfile.takeUpTable s.profile.active).clearRefreshCounts

theorem State.retabled_eq (s : State) :
    s.retabled = ((s.tabled.takeUpBoost s.profile.active).takeUpRate).takeUpRing s.profile.active := rfl

/-- What `State.tabled` leaves as it was, and its profile. -/
theorem State.tabled_frame (s : State) :
    s.tabled.page = s.profile.shadow ∧ s.tabled.severity = s.severity ∧ s.tabled.timecode = s.timecode ∧ s.tabled.ring = s.ring ∧
      s.tabled.mport = s.mport ∧ s.tabled.report = s.activateProfile.report := by
  simp [State.tabled, State.activateProfile_page]

section apply

variable (s : State)

theorem State.retabled_severity :
    s.retabled.severity = { s.severity with
      boostHeld := boostAfter s.profile.active s.profile.shadow s.severity } := by
  obtain ⟨page, severity, -⟩ := s.tabled_frame
  have taken : s.retabled.severity = (s.tabled.takeUpBoost s.profile.active).severity := by simp [State.retabled_eq]
  rw [taken, State.takeUpBoost_severity, page, severity]

/-- The state in which the frame rate is taken up. -/
theorem State.boosted_frame :
    (s.tabled.takeUpBoost s.profile.active).page = s.profile.shadow ∧ (s.tabled.takeUpBoost s.profile.active).timecode = s.timecode := by
  obtain ⟨page, -, timecode, -⟩ := s.tabled_frame
  simp [page, timecode]

theorem State.retabled_timecode : s.retabled.timecode = (s.tabled.takeUpBoost s.profile.active).takeUpRate.timecode := by
  simp [State.retabled_eq]

theorem State.retabled_timecode_of_same (same : s.profile.shadow.frameRate = some s.timecode.rate) : s.retabled.timecode = s.timecode := by
  obtain ⟨page, timecode⟩ := s.boosted_frame
  rw [State.retabled_timecode, State.takeUpRate_of_same (by rw [page, timecode, same]), timecode]

theorem State.retabled_timecode_of_new {r : FrameRate} (rate : s.profile.shadow.frameRate = some r) (new : r ≠ s.timecode.rate) :
    s.retabled.timecode = { s.timecode with rate := r, valid := false, pendingSet := none } ∧ s.retabled.isDirty .timecodeState = true := by
  obtain ⟨page, timecode⟩ := s.boosted_frame
  have taken := State.takeUpRate_of_new (s := s.tabled.takeUpBoost s.profile.active) (by rw [page, rate]) (by rwa [timecode])
  have ring := reportsWithin_takeUpRing (s.tabled.takeUpBoost s.profile.active).takeUpRate s.profile.active
  refine ⟨?_, ?_⟩
  · rw [State.retabled_timecode, taken]
    exact congrArg (fun c : Timecode => { c with rate := r, valid := false, pendingSet := none }) timecode
  · rw [State.retabled_eq, ring.2 _ (by simp), taken]
    exact (reports_mark _ _).isDirty (by simp)

theorem State.retabled_ring_of_same (same : ¬ ringNew s.profile.active s.profile.shadow) : s.retabled.ring = s.ring ∧ s.retabled.mport = s.mport := by
  obtain ⟨page, -, -, ring, mport, -⟩ := s.tabled_frame
  rw [ringNew_iff, not_not] at same
  rw [State.retabled_eq, State.takeUpRing, if_pos (by simp [page, same])]
  simp [ring, mport]

theorem State.retabled_ring_of_new (new : ringNew s.profile.active s.profile.shadow) :
    s.retabled.ring = { s.ring with producer := 0, consumer := 0, staged := none } ∧
      s.retabled.mport = { s.mport with busy := s.mport.busy.map MTxn.orphan } ∧
      s.retabled.isDirty .ringProducer = true ∧ s.retabled.isDirty .ringConsumer = true := by
  obtain ⟨page, -, -, ring, mport, -⟩ := s.tabled_frame
  rw [ringNew_iff] at new
  have restarts : s.retabled = ((s.tabled.takeUpBoost s.profile.active).takeUpRate).restartRing := by
    rw [State.retabled_eq, State.takeUpRing, if_neg (by simpa [page] using new)]
  have told := reports_restartRing ((s.tabled.takeUpBoost s.profile.active).takeUpRate)
  rw [restarts]
  refine ⟨?_, ?_, told.isDirty (by simp), told.isDirty (by simp)⟩
  · simp [State.restartRing, ring]
  · simp [State.restartRing, mport]

/-- The words that an accepted apply may mark before the selection is reviewed. -/
def retabledWords : List ReportWord := [.eventPending, .profileState, .timecodeState, .ringProducer, .ringConsumer]

theorem reportsWithin_retabled : ReportsWithin s s.retabled [] retabledWords := by
  obtain ⟨-, -, -, -, -, report⟩ := s.tabled_frame
  have marked : Tells s s.activateProfile [] [] [.profileState] :=
    (tells_markIf { s with profile := { s.profile with active := some s.profile.shadow } } (!s.profileActive) .profileState).after rfl
  have activated : ReportsWithin s s.activateProfile [] retabledWords := marked.within.mono (by simp) (by simp [retabledWords])
  have tabled : ReportsWithin s (s.tabled.takeUpBoost s.profile.active) [] retabledWords :=
    (ReportsWithin.of_report (by simp [report]) _ _).comp activated
  rw [State.retabled_eq]
  exact ((reportsWithin_takeUpRing _ _).mono (by simp) (by simp [retabledWords])).comp
    (((reportsWithin_takeUpRate _).mono (by simp) (by simp [retabledWords])).comp tabled)

/-- The first profile marks PROFILE_STATE, and no stage takes the mark away. -/
theorem State.retabled_profileState (marked : s.profile.active = none ∨ s.isDirty .profileState = true) :
    s.retabled.isDirty .profileState = true := by
  obtain ⟨-, -, -, -, -, report⟩ := s.tabled_frame
  have told : Reports s s.activateProfile [] (if (!s.profileActive) = true then [.profileState] else []) :=
    (reports_markIf { s with profile := { s.profile with active := some s.profile.shadow } } (!s.profileActive) .profileState).after rfl
  rw [State.retabled_eq, (reportsWithin_takeUpRing _ _).2 _ (by simp), (reportsWithin_takeUpRate _).2 _ (by simp),
    State.isDirty_congr (s := s.activateProfile) (by simp [report]), told.2]
  obtain first | dirty := marked
  · simp [State.profileActive, first]
  · simp [dirty]

end apply

end Sys2Proof.Machine
end

section
/-! What an accepted apply makes of the selection and the faults (R13, R128, R132, R139, R143), and the apply as a whole (R160). -/

namespace Sys2Proof.Machine

/-! ### The selection reviewed and the source classes judged -/

/-- The source selected after a review of the selection (R12, R13). -/
def State.reviewed (s : State) : Option Source := if s.selected = none then s.sourceToSelect else s.selected

theorem State.reviewSelection_eq {s : State} (active : s.profileActive = true) : s.reviewSelection = s.select s.reviewed := by
  unfold State.reviewSelection State.reviewed
  by_cases none : s.selected = none
  · simp [active, none]
  · rw [if_neg (by simp [none]), if_neg none, State.select_same]

/-- What a review of the selection and the judgment of the source classes after it leave. -/
structure ReviewedRun (s : State) (new : Option Source) (t : State) : Prop where
  switch : t.isPending .sourceSwitch = (s.isPending .sourceSwitch || decide (new ≠ s.selected))
  capture : CaptureCut s t (s.capture.state = .running ∧ new ≠ s.selected)
  burst : BurstCut s t (BurstAxisMoved s t)
  axis : ∀ a, t.axis a = sourceHolds s s.page new (s.axis a)
  raised : (t.faults.sourceLost = true ∧ s.faults.sourceLost = false) ∨ (t.faults.sourceFallback = true ∧ s.faults.sourceFallback = false) →
    t.isPending .faultRaised = true
  moved : t.isPending .axisState = true ↔ s.isPending .axisState = true ∨ StateMoved s t
  within : ReportsWithin s t (switchEvents ++ [.faultRaised, .faultCleared, .axisState]) (.sourceState :: .zeroResult :: heldWords)

theorem reviewedRun_of_same {s : State} (active : s.profileActive = true) : ReviewedRun s s.selected s.judgeSources := by
  have run := judgedRun_judgeSources active
  refine ⟨?_, ?_, run.burst, State.axis_judgeSources active, fun rises => run.raised.mpr (.inr rises), run.moved,
    run.within.mono (by simp [switchEvents]) (by simp)⟩
  · rw [run.within.1 _ (by simp)]
    simp
  · exact ⟨fun cut => absurd rfl cut.2, fun _ =>
      ⟨by simp, by simp, run.within.1 _ (by simp), run.within.2 _ (by simp [heldWords, faultWords])⟩⟩

/-- The classes stand as the change of the selection has left them, so that a second judgment holds no axis. -/
theorem axis_judgeSources_select {s : State} (active : s.profileActive = true) {new : Option Source} (change : s.selected ≠ new) (a : AxisId) :
    (s.select new).judgeSources.axis a = (s.select new).axis a := by
  obtain ⟨lost, fallback, -⟩ := (sourceMoved_select active change).flags
  have page : (s.select new).page = s.page := by simp
  rw [State.axis_judgeSources (by simpa using active), State.select_selected, sourceHolds, lost, fallback, page,
    if_neg fun ⟨no, lost, _⟩ => by simp [no] at lost, if_neg fun ⟨other, fallback, _⟩ => by simp [other] at fallback]

theorem reviewedRun_of_change {s : State} (active : s.profileActive = true) {new : Option Source} (change : s.selected ≠ new)
    (unselected : s.selected = none) : ReviewedRun s new (s.select new).judgeSources := by
  have moved := sourceMoved_select active change
  have run := judgedRun_judgeSources (s := s.select new) (by simpa using active)
  have axis := axis_judgeSources_select active change
  have still : ¬ BurstAxisMoved (s.select new) (s.select new).judgeSources := fun ⟨_, moves⟩ => moves (by rw [axis])
  have some : new ≠ none := fun none => change (unselected.trans none.symm)
  have burst : BurstCut s (s.select new).judgeSources (BurstAxisMoved s (s.select new)) :=
    (moved.burst.before (run.burst.congr (iff_of_false id still))).congr (by simp [some])
  refine ⟨?_, ?_, burst.congr (by simp [BurstAxisMoved, axis]), fun a => ?_, fun rises => run.raised.mpr (.inl (moved.raised.mpr (.inr ?_))), ?_, ?_⟩
  · rw [run.within.1 _ (by simp), moved.switch, decide_eq_true (Ne.symm change), Bool.or_true]
  · refine (moved.capture.before ⟨False.elim, fun _ => ⟨by simp, by simp, run.within.1 _ (by simp), ?_⟩⟩).congr (by simp [Ne.symm change])
    exact run.within.2 _ (by simp [heldWords, faultWords])
  · rw [axis, State.axis_select active change]
  · obtain ⟨lost, fallback, -⟩ := run.flags
    obtain ⟨lost', fallback', -⟩ := moved.flags
    rw [lost, fallback, State.select_selected] at rises
    rw [lost', fallback']
    simpa using rises
  · rw [run.moved, moved.moved]
    simp [StateMoved, axis]
  · exact (run.within.mono (by simp [switchEvents]) (by simp)).comp moved.within

theorem reviewedRun {s : State} (active : s.profileActive = true) : ReviewedRun s s.reviewed s.reviewSelection.judgeSources := by
  rw [State.reviewSelection_eq active]
  by_cases same : s.selected = s.reviewed
  · rw [← same, State.select_same]
    exact reviewedRun_of_same active
  · have unselected : s.selected = none := by
      by_contra some
      exact same (if_neg some).symm
    exact reviewedRun_of_change active same unselected

/-! ### The faults taken up -/

/-- Whether the first profile finds the frame-lost condition standing and FRAME_LOST not active. -/
def State.frameLostRises (s : State) (old : Option Page) : Bool := s.profileActive && old.isNone && s.timecode.frameLost && !s.faults.frameLost

/-- The state with a standing frame-lost condition taken up by the first profile. -/
def State.lostTaken (s : State) (old : Option Page) : State :=
  if old.isNone && s.timecode.frameLost then s.setFrameLost true else s

theorem tells_lostTaken (s : State) (old : Option Page) :
    Tells s (s.lostTaken old) (if s.frameLostRises old then [.faultRaised] else []) [] [.activeFaults, .headline] := by
  unfold State.lostTaken
  cases takes : old.isNone && s.timecode.frameLost with
  | true =>
    obtain ⟨ws, within, told⟩ := reports_setFrameLost s true
    have standing := takes
    simp only [Bool.and_eq_true] at standing
    have rises : s.frameLostRises old = s.frameLostMoves true := by simp [State.frameLostRises, State.frameLostMoves, standing]
    rw [if_pos rfl, rises]
    have marks : (if s.frameLostMoves true = true then [ReportWord.activeFaults] else []) ⊆ [.activeFaults, .headline] := by
      split <;> simp
    exact ⟨_, by simp, List.append_subset.mpr ⟨marks, List.Subset.trans within (by simp)⟩, told⟩
  | false =>
    have stays : s.frameLostRises old = false := by
      rw [State.frameLostRises, Bool.and_assoc s.profileActive, takes]
      simp
    rw [if_neg (by simp), stays]
    exact (reports_of_report_eq rfl).tells.weaken (by simp) (by simp) (by simp)

theorem State.takeUpFaults_eq (s : State) (old : Option Page) :
    s.takeUpFaults old = (s.judgeSources.lostTaken old).judgeHeadline.judgeStat := rfl

theorem tells_takeUpFaults (s : State) (old : Option Page) :
    Tells s.judgeSources (s.takeUpFaults old) (if s.judgeSources.frameLostRises old then [.faultRaised] else []) []
      [.activeFaults, .headline] := by
  rw [State.takeUpFaults_eq]
  have judged := (tells_judgeHeadline (s.judgeSources.lostTaken old)).trans
    (reports_of_report_eq (State.judgeStat_report (s.judgeSources.lostTaken old).judgeHeadline)).tells
  exact ((tells_lostTaken _ old).trans judged).weaken (by simp) (by simp) (by simp)

/-- What `State.takeUpFaults` leaves as the judgment of the source classes has left it. -/
theorem State.takeUpFaults_judged (s : State) (old : Option Page) :
    (s.takeUpFaults old).axes = s.judgeSources.axes ∧ (s.takeUpFaults old).burst = s.judgeSources.burst ∧
      (s.takeUpFaults old).exciteResult = s.judgeSources.exciteResult := by
  rw [State.takeUpFaults_eq, State.lostTaken]
  split <;> simp

/-! ### The apply as a whole -/

section apply

variable (s : State)

theorem State.takeUpProfile_tells :
    Tells s.retabled.reviewSelection.judgeSources s.takeUpProfile
      (if s.retabled.reviewSelection.judgeSources.frameLostRises s.profile.active then [.faultRaised] else []) []
      [.activeFaults, .headline] := tells_takeUpFaults _ _

theorem State.retabled_sourceToSelect : s.retabled.sourceToSelect = sourceFor s s.profile.shadow := by
  have live : ∀ src, s.retabled.isLive src = decide ((s.link src).state = .live) := fun src => by
    rw [State.isLive, State.link, s.retabled_frame.2.2.2.1, State.link]
    cases (s.links.get src).state <;> rfl
  rw [State.sourceToSelect, live, live, State.retabled_page, sourceFor]
  simp

theorem State.retabled_reviewed : s.retabled.reviewed = if s.selected = none then sourceFor s s.profile.shadow else s.selected := by
  rw [State.reviewed, State.retabled_sourceToSelect, s.retabled_frame.2.2.2.2.1]

theorem State.takeUpProfile_selected : s.takeUpProfile.selected = s.retabled.reviewed := by
  rw [State.takeUpProfile_eq, (State.takeUpFaults_frame _ _).2.2.2.2.1, State.reviewSelection_eq s.retabled_active, State.select_selected]

theorem State.takeUpProfile_axis (a : AxisId) :
    s.takeUpProfile.axis a =
      sourceHolds s s.profile.shadow s.takeUpProfile.selected (retabledAxis s.profile.active s.profile.shadow (s.axis a)) := by
  have axes : s.takeUpProfile.axis a = s.retabled.reviewSelection.judgeSources.axis a := State.axis_congr (State.takeUpFaults_judged _ _).1 a
  rw [axes, (reviewedRun s.retabled_active).axis, State.takeUpProfile_selected, State.retabled_page, State.axis_retabled]
  exact sourceHolds_congr s.retabled_frame.2.2.2.2.2.2.2.2.2.2.1 _ _ _

theorem captureCut_takeUpProfile :
    CaptureCut s s.takeUpProfile (s.capture.state = .running ∧ s.takeUpProfile.selected ≠ s.selected) := by
  obtain ⟨-, -, -, -, selected, -, capture, zeroResult, -⟩ := s.retabled_frame
  have told := s.takeUpProfile_tells
  have before : CaptureCut s s.retabled False := ⟨False.elim, fun _ =>
    ⟨capture, zeroResult, (reportsWithin_retabled s).1 _ (by simp), (reportsWithin_retabled s).2 _ (by simp [retabledWords])⟩⟩
  have after : CaptureCut s.retabled.reviewSelection.judgeSources s.takeUpProfile False := captureCut_of_tells told
    (by split <;> simp) (by simp) (by simp [State.takeUpProfile_eq]) (by simp [State.takeUpProfile_eq])
  have cut := (((reviewedRun s.retabled_active).capture.before after).after before)
  rwa [capture, selected, ← State.takeUpProfile_selected] at cut

theorem burstCut_takeUpProfile : BurstCut s s.takeUpProfile (BurstAxisMoved s s.takeUpProfile) := by
  obtain ⟨axes, burst, result⟩ := State.takeUpFaults_judged s.retabled.reviewSelection s.profile.active
  have told := s.takeUpProfile_tells
  have before : BurstCut s s.retabled False := ⟨False.elim, fun _ =>
    ⟨by simp, by simp, (reportsWithin_retabled s).1 _ (by simp), (reportsWithin_retabled s).2 _ (by simp [retabledWords])⟩⟩
  have after : BurstCut s.retabled.reviewSelection.judgeSources s.takeUpProfile False :=
    burstCut_of_tells told (by split <;> simp) (by simp) burst result
  have same : ∀ u : State, BurstAxisMoved u s.takeUpProfile ↔ BurstAxisMoved u s.retabled.reviewSelection.judgeSources := fun u => by
    rw [BurstAxisMoved, BurstAxisMoved, State.takeUpProfile_eq, State.axis_congr axes]
  have states : ∀ b, (s.retabled.axis b).state = (s.axis b).state := fun b => by rw [State.axis_retabled, retabledAxis_state]
  exact burstCut_of_stands before states (((reviewedRun s.retabled_active).burst.before after).congr (same _))

theorem State.rebound_takeUpProfile (e : QEntry) : s.activateProfile.rebindEntry e = rebound s.takeUpProfile e := by
  have classes : ∀ addr, s.takeUpProfile.classify addr = s.activateProfile.classify addr := fun addr =>
    State.classify_congr (by simp) (by rw [State.takeUpProfile_active, State.activateProfile_profile]) addr
  unfold State.rebindEntry rebound
  cases e.txn with
  | read addr lanes => rfl
  | write addr data lanes =>
    simp only [classes]
    cases s.activateProfile.classify addr <;> rfl

/-- The blocks that only the stages before the review of the selection write. -/
theorem State.takeUpProfile_retabled :
    s.takeUpProfile.cport = s.retabled.cport ∧ s.takeUpProfile.mport = s.retabled.mport ∧ s.takeUpProfile.severity = s.retabled.severity ∧
      s.takeUpProfile.timecode = s.retabled.timecode ∧ s.takeUpProfile.ring = s.retabled.ring := by
  simp [State.takeUpProfile_eq]

/-- The words marked before the review of the selection stay marked. -/
theorem State.takeUpProfile_isDirty {w : ReportWord} (out : w ∉ ReportWord.sourceState :: .zeroResult :: heldWords) :
    s.takeUpProfile.isDirty w = s.retabled.isDirty w := by
  have faults : w ∉ [ReportWord.activeFaults, .headline] := fun mem => out (by
    simp at mem
    rcases mem with rfl | rfl <;> simp [heldWords, faultWords])
  have own : w ≠ .eventPending := by
    rintro rfl
    exact out (by simp [heldWords, faultWords])
  rw [s.takeUpProfile_tells.isDirty_of_notMem (by simpa using faults) own]
  exact (reviewedRun s.retabled_active).within.2 w out

theorem State.takeUpProfile_switch :
    s.takeUpProfile.isPending .sourceSwitch = (s.isPending .sourceSwitch || decide (s.takeUpProfile.selected ≠ s.selected)) := by
  rw [s.takeUpProfile_tells.isPending_of_notMem (by split <;> simp), (reviewedRun s.retabled_active).switch,
    (reportsWithin_retabled s).1 _ (by simp), State.takeUpProfile_selected, s.retabled_frame.2.2.2.2.1]

theorem State.takeUpProfile_moved :
    s.takeUpProfile.isPending .axisState = true ↔ s.isPending .axisState = true ∨ StateMoved s s.takeUpProfile := by
  have states : ∀ b, (s.retabled.axis b).state = (s.axis b).state := fun b => by rw [State.axis_retabled, retabledAxis_state]
  have axes := (State.takeUpFaults_judged s.retabled.reviewSelection s.profile.active).1
  rw [s.takeUpProfile_tells.isPending_of_notMem (by split <;> simp), (reviewedRun s.retabled_active).moved,
    (reportsWithin_retabled s).1 _ (by simp)]
  simp only [StateMoved, states, State.takeUpProfile_eq, State.axis_congr axes]

theorem State.takeUpRate_frameLost (u : State) : u.takeUpRate.timecode.frameLost = u.timecode.frameLost := by
  unfold State.takeUpRate
  split
  · rfl
  · split <;> simp

theorem State.retabled_frameLost : s.retabled.timecode.frameLost = s.timecode.frameLost := by
  rw [State.retabled_timecode, State.takeUpRate_frameLost, s.boosted_frame.2]

/-- What the review of the selection leaves for the faults. -/
theorem State.reviewed_frame :
    s.retabled.reviewSelection.selected = s.takeUpProfile.selected ∧ s.retabled.reviewSelection.page = s.profile.shadow ∧
      s.retabled.reviewSelection.faults.frameLost = s.faults.frameLost ∧
      s.retabled.reviewSelection.timecode.frameLost = s.timecode.frameLost := by
  have flag : s.retabled.reviewSelection.faults.frameLost = s.retabled.faults.frameLost := by
    rw [State.reviewSelection_eq s.retabled_active]
    by_cases same : s.retabled.selected = s.retabled.reviewed
    · rw [← same, State.select_same]
    · exact (sourceMoved_select s.retabled_active same).flags.2.2
  refine ⟨?_, ?_, ?_, ?_⟩
  · rw [State.takeUpProfile_eq, (State.takeUpFaults_frame _ _).2.2.2.2.1]
  · rw [← State.retabled_page]
    simp
  · rw [flag]
    simp
  · rw [← State.retabled_frameLost s]
    simp

theorem State.takeUpProfile_deviceFlags :
    s.takeUpProfile.faults.sourceLost = decide (s.takeUpProfile.selected = none) ∧
      s.takeUpProfile.faults.sourceFallback = decide (s.takeUpProfile.selected = some (otherSource s.profile.shadow.primary)) ∧
      s.takeUpProfile.faults.frameLost = (s.faults.frameLost || (decide (s.profile.active = none) && s.timecode.frameLost)) := by
  obtain ⟨selected, page, flag, condition⟩ := s.reviewed_frame
  have flags := State.takeUpFaults_deviceFlags s.reviewed_active s.profile.active
  rw [selected, page, flag, condition, ← State.takeUpProfile_eq] at flags
  simp only [State.deviceFlags, Prod.mk.injEq] at flags
  obtain ⟨lost, fallback, frame⟩ := flags
  refine ⟨lost, fallback, frame.trans ?_⟩
  cases s.profile.active <;> rfl

theorem State.takeUpProfile_raises (c : FaultClass) (device : c ∈ [FaultClass.sourceLost, .sourceFallback, .frameLost])
    (active : s.takeUpProfile.classActive c = true) (inactive : s.classActive c = false) : s.takeUpProfile.isPending .faultRaised = true := by
  obtain ⟨selected, page, flag, condition⟩ := s.reviewed_frame
  obtain ⟨lost, fallback, frame⟩ := s.takeUpProfile_deviceFlags
  obtain ⟨lost', fallback', frame'⟩ := judgeSources_flags s.reviewed_active
  rw [selected] at lost' fallback'
  rw [page] at fallback'
  have faults : s.retabled.faults = s.faults := s.retabled_frame.2.2.2.2.2.2.2.2.2.2.1
  have source : (s.takeUpProfile.faults.sourceLost = true ∧ s.faults.sourceLost = false) ∨
      (s.takeUpProfile.faults.sourceFallback = true ∧ s.faults.sourceFallback = false) → s.takeUpProfile.isPending .faultRaised = true := by
    intro rises
    rw [lost, fallback, ← lost', ← fallback', ← faults] at rises
    rw [s.takeUpProfile_tells.raises .faultRaised, (reviewedRun s.retabled_active).raised rises, Bool.true_or]
  simp only [List.mem_cons, List.not_mem_nil, or_false] at device
  obtain rfl | rfl | rfl := device
  · exact source (.inl ⟨active, inactive⟩)
  · exact source (.inr ⟨active, inactive⟩)
  · have active' : s.takeUpProfile.faults.frameLost = true := active
    have inactive' : s.faults.frameLost = false := inactive
    rw [frame, inactive', Bool.false_or, Bool.and_eq_true, decide_eq_true_eq] at active'
    obtain ⟨first, standing⟩ := active'
    have rises : s.retabled.reviewSelection.judgeSources.frameLostRises s.profile.active = true := by
      have on := s.reviewed_active
      simp only [State.frameLostRises, frame', flag, inactive', first, (State.judgeSources_frame _).2.2.2.2.2.2.2.2.2.2.2.1, condition, standing]
      simpa using on
    have told := s.takeUpProfile_tells
    rw [if_pos rises] at told
    exact told.isPending (by simp)

theorem takenUp_takeUpProfile (rate : s.profile.shadow.frameRate ≠ none) : TakenUp s s.profile.shadow s.takeUpProfile := by
  obtain ⟨cport, mport, severity, timecode, ring⟩ := s.takeUpProfile_retabled
  obtain ⟨lost, fallback, frame⟩ := s.takeUpProfile_deviceFlags
  have headline : HeadlineInOrder s.takeUpProfile := headlineInOrder_judged _
  refine ⟨s.takeUpProfile_active, ?_, s.takeUpProfile_switch, captureCut_takeUpProfile s, burstCut_takeUpProfile s,
    fun a => ⟨_, retabled_retabledAxis _ _ _, s.takeUpProfile_axis a⟩, fun new => ?_, fun same => ?_, ?_, fun no => ?_, fun yes same => ?_,
    fun yes new => ?_, fun same => ?_, fun new => ?_, fun same => ?_, fun new => ?_, lost, fallback, frame, headline.1, headline.2,
    s.takeUpProfile_raises, s.takeUpProfile_moved, ?_⟩
  · rw [State.takeUpProfile_selected, State.retabled_reviewed]
  · rw [cport, State.retabled_cport, if_pos ((tableChanged_iff _ _).mpr new)]
    have rebound : s.activateProfile.rebindEntry = rebound s.takeUpProfile := funext s.rebound_takeUpProfile
    rw [← rebound]
    simp [State.rebindQueue]
  · rw [cport, State.retabled_cport, if_neg fun changed => same ((tableChanged_iff _ _).mp changed)]
  · rw [severity, State.retabled_severity]
  · rw [severity, State.retabled_severity]
    exact if_pos no
  · rw [boostNew_iff, not_not] at same
    rw [severity, State.retabled_severity]
    simp [boostAfter, yes, same]
  · rw [boostNew_iff] at new
    rw [severity, State.retabled_severity]
    cases state : s.severity.state <;> simp [boostAfter, yes, new, state, Page.boostValue]
  · rw [timecode, State.retabled_timecode_of_same s same]
  · obtain ⟨r, rate⟩ := Option.ne_none_iff_exists'.mp rate
    rw [rate] at new
    obtain ⟨taken, marked⟩ := State.retabled_timecode_of_new s rate fun same => new (congrArg some same)
    rw [timecode, taken]
    refine ⟨rfl, rate, ?_⟩
    rw [State.takeUpProfile_isDirty s (by simp [heldWords, faultWords]), marked]
  · rw [ring, mport]
    exact State.retabled_ring_of_same s same
  · obtain ⟨taken, orphaned, producer, consumer⟩ := State.retabled_ring_of_new s new
    rw [ring, mport, taken, orphaned, State.takeUpProfile_isDirty s (by simp [heldWords, faultWords]),
      State.takeUpProfile_isDirty s (by simp [heldWords, faultWords])]
    refine ⟨rfl, rfl, rfl, producer, consumer, ?_⟩
    rw [funext MTxn.orphan_eq]
  · apply State.eq_of_fields <;> simp

end apply

end Sys2Proof.Machine
end

section
/-! Accepted applies, from the controller and at start-up (R157 to R160). -/

namespace Sys2Proof.Machine

/-- What is taken up does not depend on the profile's other fields and on the report before it, where no event and no word of the blocks differs. -/
theorem TakenUp.before {s u : State} {p : Page} {t : State} (h : TakenUp u p t) (profile : ProfileUnit)
    (same : u = { s with profile := { profile with active := s.profile.active }, report := u.report })
    (within : ReportsWithin s u [.applyDone, .sweepDone] [.eventPending, .applyResult, .profileState]) : TakenUp s p t := by
  generalize u.report = report at same
  subst same
  obtain ⟨active, selected, switch, capture, burst, axes, table, noTable, severity, boostOff, boostSame, boostNew, rateSame, rateNew, ringSame,
    ringNew, lost, fallback, frame, headline, pattern, raised, moved, fields⟩ := h
  have captureLeft : CaptureCut s { s with profile := { profile with active := s.profile.active }, report := report } False :=
    ⟨False.elim, fun _ => ⟨rfl, rfl, within.1 _ (by simp), within.2 _ (by simp)⟩⟩
  have burstLeft : BurstCut s { s with profile := { profile with active := s.profile.active }, report := report } False :=
    ⟨False.elim, fun _ => ⟨rfl, rfl, within.1 _ (by simp), within.2 _ (by simp)⟩⟩
  rw [within.1 _ (by simp)] at switch moved
  exact ⟨active, selected, switch, capture.after captureLeft, burst.after burstLeft, axes, table, noTable, severity, boostOff, boostSame, boostNew,
    rateSame, rateNew, ringSame, ringNew, lost, fallback, frame, headline, pattern, raised, moved, fields⟩

/-- A profile that passes the range tests names a frame rate. -/
theorem Page.frameRate_ne_none {p : Page} {strap : PageNo} (range : p.rangeFault strap = none) : p.frameRate ≠ none := by
  intro no
  have fails : wordAt p 0x02 / 4 % 4 = 3 := p.frameRate_isSome_eq_false_iff.mp (by simp [no])
  exact (p.rangeFault_eq_none_iff strap).mp range 0x02 (.inl (.inl ⟨rfl, fails⟩))

theorem State.takeUpProfile_profile (s : State) : s.takeUpProfile.profile = { s.profile with active := some s.profile.shadow } := by
  rw [← State.retabled_profile]
  simp [State.takeUpProfile_eq]

/-- The events that the blocks may raise at an accepted apply. -/
def takeUpEvents : List Event := switchEvents ++ [.faultRaised, .faultCleared, .axisState]

theorem State.takeUpProfile_isPending (s : State) {e : Event} (out : e ∉ takeUpEvents) : s.takeUpProfile.isPending e = s.isPending e := by
  have faults : e ≠ .faultRaised := by
    rintro rfl
    exact out (by simp [takeUpEvents])
  rw [s.takeUpProfile_tells.isPending_of_notMem (by split <;> simp [faults]), (reviewedRun s.retabled_active).within.1 e out,
    (reportsWithin_retabled s).1 e (by simp)]

/-- What an accepted apply shows besides what the blocks report. -/
theorem takeUpProfile_shows (s : State) (r : ApplyResult) (o : Offset) :
    (s.applyShown r o).takeUpProfile.isPending .applyDone = true ∧ (s.applyShown r o).takeUpProfile.isDirty .applyResult = true ∧
      (s.applyShown r o).takeUpProfile.isPending .sweepDone = s.isPending .sweepDone ∧
      (s.profile.active = none ∨ s.isDirty .profileState = true → (s.applyShown r o).takeUpProfile.isDirty .profileState = true) := by
  have shown := reports_applyShown s r o
  have active : (s.applyShown r o).profile.active = s.profile.active := congrArg (·.profile.active) (s.applyShown_eq r o)
  rw [State.takeUpProfile_isPending _ (by simp [takeUpEvents, switchEvents]), State.takeUpProfile_isPending _ (by simp [takeUpEvents, switchEvents]),
    State.takeUpProfile_isDirty _ (by simp [heldWords, faultWords]), State.takeUpProfile_isDirty _ (by simp [heldWords, faultWords]),
    (reportsWithin_retabled _).2 .applyResult (by simp [retabledWords])]
  refine ⟨shown.isPending (by simp), shown.isDirty (by simp), shown.isPending_of_notMem (by simp), fun marked =>
    State.retabled_profileState _ ?_⟩
  rw [active, shown.isDirty_of_notMem (w := .profileState) (by simp) (by simp)]
  exact marked

/-! ### A judged apply that passes -/

section passed

variable {s : State} (judged : s.judgeApply = (.applied, 0))
include judged

theorem applyRequest_of_passed : s.applyRequest = (s.applyShown .applied 0).takeUpProfile := by
  rw [State.applyRequest_eq, judged, if_pos rfl]

theorem applyRequest_profile_of_passed : s.applyRequest.profile =
    { s.profile with applyResult := .applied, applyOffset := 0, active := some s.profile.shadow } := by
  rw [applyRequest_of_passed judged, State.takeUpProfile_profile, State.applyShown_eq]

end passed

/-- Settles O32: the apply passes, its result is shown and the blocks take the profile up. -/
theorem acceptedApplyTakesTheProfileUp : Obligations.AcceptedApplyTakesTheProfileUp := by
  intro s takes done p range priority policy fits waiting
  have passes : (applySeen s).structuralOk (applySeen s).profile.shadow = true := by
    rw [← Bool.not_eq_false, State.structuralOk_eq_false_iff]
    rintro ⟨⟨a, on⟩, old, active, differs⟩
    obtain off | ⟨old', active', same⟩ := fits
    · exact on (off a)
    · have which : some old = some old' := active.symm.trans active'
      rw [Option.some.inj which] at differs
      exact absurd (same.symm.trans differs) (by decide)
  have judged : (applySeen s).judgeApply = (.applied, 0) := State.judgeApply_of_passed (s := applySeen s) done range priority policy passes
  obtain ⟨applied, marked, -, profileState⟩ := takeUpProfile_shows (applySeen s) .applied 0
  rw [← applyRequest_of_passed judged] at applied marked profileState
  refine ⟨_, exec_apply takes, applyRequest_profile_of_passed judged, applied, marked, fun first => profileState (.inl first), ?_⟩
  have shadow : ((applySeen s).applyShown .applied 0).profile.shadow = p := congrArg (·.profile.shadow) ((applySeen s).applyShown_eq .applied 0)
  have taken := takenUp_takeUpProfile ((applySeen s).applyShown .applied 0) (by rw [shadow]; exact Page.frameRate_ne_none range)
  rw [shadow] at taken
  rw [applyRequest_of_passed judged]
  have told := (reports_applyShown (applySeen s) .applied 0).after (s := waiting) rfl
  exact TakenUp.before taken { (applySeen s).profile with applyResult := .applied, applyOffset := 0 } (State.applyShown_eq _ _ _)
    (told.tells.within.mono (by simp) (by simp))

end Sys2Proof.Machine
end

section
/-! The ready of a sweep read and the end of the sweep, with its start-up apply (R157, R158). -/

namespace Sys2Proof.Machine

section sweep

variable {s : State} {w : MTxn} {pos : Offset} (busy : s.mport.busy = some w) (kind : w.kind = .sweepRead)
  (sweeping : s.profile.sweep = .sweeping pos)

/-- The shadow after a sweep read. -/
def sweptShadow (s : State) (pos : Offset) (word : Word) : Page :=
  if s.profile.touched[pos.toNat]'pos.isLt = true then s.profile.shadow else s.profile.shadow.setWord pos word

/-- The state with the port free and the word of a sweep read placed. -/
def State.swept (s : State) (pos : Offset) (word : Word) : State :=
  { s with
    mport := { s.mport with busy := none }
    profile := { s.profile with shadow := sweptShadow s pos word } }

theorem State.placeSwept_freePort (s : State) (pos : Offset) (word : Word) : s.freePort.placeSwept pos word = s.swept pos word := by
  unfold State.placeSwept State.swept sweptShadow
  split
  next touched => rw [if_pos (show s.profile.touched[pos.toNat]'pos.isLt = true from touched)]; rfl
  next untouched => rw [if_neg (show ¬ s.profile.touched[pos.toNat]'pos.isLt = true from untouched)]; rfl

/-- The state at the end of the sweep, before a start-up apply. -/
def State.sweepEnded (s : State) : State :=
  (({ s with profile := { s.profile with sweep := .done } } : State).raise .sweepDone).mark .profileState

theorem State.endSweep_eq (s : State) :
    s.endSweep = if s.profile.shadow.word 1 = 0x00A5 then s.sweepEnded.applyRequest else s.sweepEnded := by
  have shadow : s.sweepEnded.profile.shadow = s.profile.shadow := by simp [State.sweepEnded]
  rw [← shadow]
  rfl

theorem State.sweepEnded_eq (s : State) :
    s.sweepEnded = { s with profile := { s.profile with sweep := .done }, report := s.sweepEnded.report } := by
  apply State.eq_of_fields <;> simp [State.sweepEnded]

theorem reports_sweepEnded (s : State) : Reports s s.sweepEnded [.sweepDone] [.profileState] :=
  ((reports_raise _ _).trans (reports_mark _ _)).after rfl

include busy kind sweeping

theorem exec_sweepReadDone : exec .sweepReadDone s = .next (
    if pos = 0xFF then (s.swept pos (s.ram.readWord w.addr)).endSweep
    else { s.swept pos (s.ram.readWord w.addr) with
      profile := { (s.swept pos (s.ram.readWord w.addr)).profile with sweep := .sweeping (pos + 1) } }) := by
  refine congrArg Host.Outcome.next ?_
  rw [State.completeSweepRead, busy, sweeping]
  simp only [kind, State.placeSwept_freePort]

end sweep

theorem applyShown_sweepEnded (s : State) (r : ApplyResult) (o : Offset) :
    s.sweepEnded.applyShown r o = { s with
      profile := { s.profile with sweep := .done, applyResult := r, applyOffset := o }
      report := (s.sweepEnded.applyShown r o).report } := by
  have shown := s.sweepEnded.applyShown_eq r o
  rw [State.sweepEnded_eq] at shown ⊢
  exact shown

/-- What any apply request shows, and what it leaves of the sweep. -/
theorem applyRequest_shows (s : State) :
    s.applyRequest.profile.sweep = s.profile.sweep ∧ s.applyRequest.profile.shadow = s.profile.shadow ∧
      s.applyRequest.isPending .sweepDone = s.isPending .sweepDone ∧ s.applyRequest.isPending .applyDone = true ∧
      (s.isDirty .profileState = true → s.applyRequest.isDirty .profileState = true) ∧ s.applyRequest.isDirty .applyResult = true := by
  have shown := reports_applyShown s s.judgeApply.1 s.judgeApply.2
  have profile := congrArg (·.profile) (s.applyShown_eq s.judgeApply.1 s.judgeApply.2)
  rw [State.applyRequest_eq]
  split
  · obtain ⟨applyDone, applyResult, sweepDone, profileState⟩ := takeUpProfile_shows s s.judgeApply.1 s.judgeApply.2
    rw [State.takeUpProfile_profile, profile]
    exact ⟨rfl, rfl, sweepDone, applyDone, fun marked => profileState (.inr marked), applyResult⟩
  · rw [profile]
    refine ⟨rfl, rfl, shown.isPending_of_notMem (by simp), shown.isPending (by simp), fun marked => ?_, shown.isDirty (by simp)⟩
    rw [shown.isDirty_of_notMem (by simp) (by simp), marked]

/-- The tests that a start-up apply under an EMPTY profile may fail, in their order. -/
def startupRefusal (p : Page) (strap : PageNo) : Option (ApplyResult × Offset) :=
  if p.rangeFault strap ≠ none then some (.range, (p.rangeFault strap).getD 0)
  else if p.priorityOk = false then some (.priority, 0)
  else if p.policyOk = false then some (.policy, 0)
  else none

section startup

variable {s : State} (done : s.profile.sweep = .done) (first : s.profile.active = none)
include done

theorem judgeApply_of_refusal {r : ApplyResult × Offset} (refused : startupRefusal s.profile.shadow s.strapPage = some r) :
    s.judgeApply = r ∧ r.1 ≠ .applied := by
  unfold startupRefusal at refused
  split_ifs at refused with range priority policy <;> cases refused
  · obtain ⟨o, fault⟩ := Option.ne_none_iff_exists'.mp range
    rw [State.judgeApply_of_range done fault, fault]
    exact ⟨rfl, by simp⟩
  · exact ⟨State.judgeApply_of_priority done (not_not.mp range) priority, by simp⟩
  · exact ⟨State.judgeApply_of_policy done (not_not.mp range) (by simpa using priority) policy, by simp⟩

include first

theorem judgeApply_of_startup (passes : startupRefusal s.profile.shadow s.strapPage = none) :
    s.judgeApply = (.applied, 0) ∧ s.profile.shadow.rangeFault s.strapPage = none := by
  unfold startupRefusal at passes
  split_ifs at passes with range priority policy
  refine ⟨State.judgeApply_of_passed done (not_not.mp range) (by simpa using priority) (by simpa using policy) ?_, not_not.mp range⟩
  simp [State.structuralOk, first]

end startup

/-- Settles O44: the word is placed, the last read ends the sweep, and the start-up apply is an apply request of the shadow. -/
theorem sweepReadFillsTheShadow : Obligations.SweepReadFillsTheShadow := by
  intro s w pos busy kind sweeping shadow
  have run := exec_sweepReadDone busy kind sweeping
  let u := s.swept pos (s.ram.readWord w.addr)
  have told := reports_sweepEnded u
  refine ⟨fun more => ?_, fun last other => ?_, fun last startup => ?_⟩
  · rw [run, if_neg more]
    rfl
  · rw [if_pos last, State.endSweep_eq] at run
    exact ⟨_, run.trans (congrArg _ (if_neg other)), State.sweepEnded_eq u, told.after rfl⟩
  · rw [if_pos last, State.endSweep_eq] at run
    let v := u.sweepEnded
    have profile : v.profile = { u.profile with sweep := .done } := congrArg (·.profile) (State.sweepEnded_eq u)
    have executed : exec .sweepReadDone s = .next v.applyRequest := run.trans (congrArg _ (if_pos startup))
    have done : v.profile.sweep = .done := by rw [profile]
    have swept : v.profile.shadow = shadow := by rw [profile]; rfl
    have strap : v.strapPage = s.strapPage := congrArg (·.strapPage) (State.sweepEnded_eq u)
    obtain ⟨sweep, kept, sweepDone, applyDone, profileState, applyResult⟩ := applyRequest_shows v
    refine ⟨_, executed, sweep.trans done, kept.trans swept, sweepDone.trans (told.isPending (by simp)), applyDone,
      profileState (told.isDirty (by simp)), applyResult, fun first => ⟨fun passes => ?_, fun r refused => ?_⟩⟩
    · have first' : v.profile.active = none := by rw [profile]; exact first
      obtain ⟨judged, range⟩ := judgeApply_of_startup done first' (by rw [swept, strap]; exact passes)
      have shown := (told.trans (reports_applyShown v .applied 0)).after (s := { s with mport := { s.mport with busy := none } }) rfl
      have whole : v.applyShown .applied 0 = { u with
          profile := { u.profile with sweep := .done, applyResult := .applied, applyOffset := 0 }
          report := (v.applyShown .applied 0).report } :=
        applyShown_sweepEnded u .applied 0
      have shadow' : (v.applyShown .applied 0).profile.shadow = shadow := congrArg (·.profile.shadow) whole
      have taken := takenUp_takeUpProfile (v.applyShown .applied 0) (by rw [shadow']; exact Page.frameRate_ne_none (by rwa [swept] at range))
      rw [shadow'] at taken
      refine ⟨?_, ?_⟩
      · rw [applyRequest_profile_of_passed judged, profile]
        rfl
      · rw [applyRequest_of_passed judged]
        exact TakenUp.before taken { u.profile with sweep := .done, applyResult := .applied, applyOffset := 0 } whole
          (shown.tells.within.mono (by simp) (by simp))
    · obtain ⟨judged, other⟩ := judgeApply_of_refusal done (by rw [swept, strap]; exact refused)
      rw [State.applyRequest_eq, judged, if_neg other]
      exact ⟨applyShown_sweepEnded u r.1 r.2, (told.trans (reports_applyShown v r.1 r.2)).after rfl⟩

end Sys2Proof.Machine
end

section
/-! What a block does at an acceptance does not depend on the C-port: every operation gives the same with another C-port, which it leaves but
for the bindings that an accepted apply writes anew (R97). -/

namespace Sys2Proof.Machine

/-- A state with another C-port. -/
def State.withCport (s : State) (c : CPort) : State := { s with cport := c }

/-- An operation that neither reads nor writes the C-port. -/
def Neutral (f : State → State) : Prop := ∀ s c, f (s.withCport c) = (f s).withCport c

namespace Neutral

variable {f g : State → State}

theorem id : Neutral fun s => s := fun _ _ => rfl

/-- One operation after another. -/
theorem comp (hg : Neutral g) (hf : Neutral f) : Neutral fun s => g (f s) := fun s c => (congrArg g (hf s c)).trans (hg (f s) c)

/-- A choice by a test that does not read the C-port. -/
theorem ite (P : State → Prop) [DecidablePred P] (same : ∀ s c, P (s.withCport c) ↔ P s) (hf : Neutral f) (hg : Neutral g) :
    Neutral fun s => if P s then f s else g s := fun s c => by
  by_cases h : P s
  · simp only [if_pos h, if_pos ((same s c).mpr h)]
    exact hf s c
  · simp only [if_neg h, if_neg (mt (same s c).mp h)]
    exact hg s c

/-- A choice of operation by something that does not depend on the C-port. -/
theorem pick {α : Type} {h : α → State → State} (x : State → α) (same : ∀ s c, x (s.withCport c) = x s) (each : ∀ a, Neutral (h a)) :
    Neutral fun s => h (x s) s := fun s c => by
  simp only [same]
  exact each (x s) s c

theorem forAxes {f : AxisId → State → State} (h : ∀ a, Neutral (f a)) : Neutral (forAxes f) := fun s c => by
  simp only [Machine.forAxes, h _ _ _]

end Neutral

/-! ### Reports and flags -/

theorem neutral_mark (w : ReportWord) : Neutral fun s => s.mark w := fun _ _ => rfl

theorem neutral_markIf (b : Bool) (w : ReportWord) : Neutral fun s => s.markIf b w := by
  cases b
  · exact .id
  · exact neutral_mark w

theorem neutral_raise (e : Event) : Neutral fun s => s.raise e :=
  .ite (fun s => s.isPending e = true) (fun _ _ => Iff.rfl) .id fun _ _ => rfl

theorem neutral_judgeStat : Neutral State.judgeStat :=
  .ite (fun s => s.patternFor = s.faults.pattern) (fun _ _ => Iff.rfl) .id fun _ _ => rfl

theorem neutral_judgeHeadline : Neutral State.judgeHeadline :=
  .ite (fun s => s.firstActive = s.faults.headline) (fun _ _ => Iff.rfl) .id <| .comp neutral_judgeStat fun _ _ => rfl

theorem neutral_reportFlag (old new : Bool) : Neutral fun s => s.reportFlag old new := by
  by_cases same : old = new
  · simpa only [State.reportFlag, if_pos same] using Neutral.id
  · simpa only [State.reportFlag, if_neg same] using Neutral.comp (neutral_mark .activeFaults) (neutral_raise (flagEvent new))

theorem neutral_setAxisFlag (k : AxisClass) (a : AxisId) (on : Bool) : Neutral fun s => s.setAxisFlag k a on := by
  refine .ite (fun s => (!s.profileActive || (s.axis a).classActive k == on) = true) (fun _ _ => Iff.rfl) .id ?_
  refine .comp neutral_judgeHeadline ?_
  refine .pick (h := fun b s => (((s.setAxis a ((s.axis a).withClass k on)).raise (flagEvent on)).mark (.axisStatus a)).markIf b .activeFaults)
    (fun s => s.classActive k.toClass != (s.setAxis a ((s.axis a).withClass k on)).classActive k.toClass) (fun _ _ => rfl) fun b => ?_
  exact .comp (neutral_markIf _ _) <| .comp (neutral_mark _) <| .comp (neutral_raise _) fun _ _ => rfl

theorem neutral_setSourceFlags (lost fallback : Bool) : Neutral fun s => s.setSourceFlags lost fallback := by
  refine .comp neutral_judgeHeadline ?_
  refine .pick (h := fun old s => ({ s with faults := { s.faults with sourceLost := lost, sourceFallback := fallback } }.reportFlag old.1
    lost).reportFlag old.2 fallback) (fun s => (s.faults.sourceLost, s.faults.sourceFallback)) (fun _ _ => rfl) fun old => ?_
  exact .comp (neutral_reportFlag _ _) <| .comp (neutral_reportFlag _ _) fun _ _ => rfl

theorem neutral_setFrameLost (on : Bool) : Neutral fun s => s.setFrameLost on := by
  refine .ite (fun s => (!s.profileActive || s.faults.frameLost == on) = true) (fun _ _ => Iff.rfl) .id ?_
  refine .comp neutral_judgeHeadline ?_
  refine .pick (h := fun old s => { s with faults := { s.faults with frameLost := on } }.reportFlag old on) (fun s => s.faults.frameLost)
    (fun _ _ => rfl) fun old => ?_
  exact .comp (neutral_reportFlag _ _) fun _ _ => rfl

/-! ### Axes -/

theorem neutral_endBurst (b : Burst) (r : ExciteResult) : Neutral fun s => s.endBurst b r :=
  .comp (neutral_raise _) fun _ _ => rfl

theorem neutral_abortBurstOn (a : AxisId) : Neutral fun s => s.abortBurstOn a :=
  .ite (fun s => s.burst.state = .running ∧ s.burst.axis = a) (fun _ _ => Iff.rfl)
    (.pick (h := fun b s => s.endBurst b (.aborted a)) (·.burst) (fun _ _ => rfl) fun b => neutral_endBurst b _) .id

theorem neutral_setAxisState (a : AxisId) (st : AxisState) : Neutral fun s => s.setAxisState a st :=
  .ite (fun s => (s.axis a).state = st) (fun _ _ => Iff.rfl) .id <|
    .comp (neutral_abortBurstOn a) <| .comp (neutral_mark _) <| .comp (neutral_raise _) fun _ _ => rfl

theorem neutral_addCause (a : AxisId) (k : Cause) : Neutral fun s => s.addCause a k :=
  .pick (h := fun b s => (s.setAxis a { s.axis a with causes := (s.axis a).causes.add k }).markIf b (.axisStatus a))
    (fun s => !(s.axis a).causes.has k) (fun _ _ => rfl) fun _ => .comp (neutral_markIf _ _) fun _ _ => rfl

theorem neutral_clearRefresh (a : AxisId) : Neutral fun s => s.clearRefresh a :=
  .comp (neutral_setAxisFlag .refreshLate a false) fun _ _ => rfl

theorem neutral_enterHeld (a : AxisId) (k : Cause) : Neutral fun s => s.enterHeld a k :=
  .comp (neutral_setAxisState a .held) <| .comp (neutral_setAxisFlag .limitDwell a false) <|
    .comp (g := fun t => t.setAxis a { t.axis a with silenceTimer := none, dwellTimer := none }) (fun _ _ => rfl) <|
      .comp (neutral_clearRefresh a) (neutral_addCause a k)

theorem neutral_hold (a : AxisId) (k : Cause) : Neutral fun s => s.hold a k := by
  refine .pick (h := fun st s => match st with
    | AxisState.off => s
    | .stabilising | .coasting => s.enterHeld a k
    | .held => s.addCause a k) (fun s => (s.axis a).state) (fun _ _ => rfl) fun st => ?_
  cases st
  · exact .id
  · exact neutral_enterHeld a k
  · exact neutral_enterHeld a k
  · exact neutral_addCause a k

theorem neutral_holdRequest (fc : FaultClass) (a : AxisId) : Neutral fun s => s.holdRequest fc a := by
  cases fc
  case frameLost => exact .id
  all_goals exact neutral_hold a _

theorem neutral_holdAll (fc : FaultClass) : Neutral fun s => s.holdAll fc := .forAxes fun a => neutral_holdRequest fc a

theorem neutral_applyDevicePolicy (fc : FaultClass) : Neutral fun s => s.applyDevicePolicy fc := by
  refine .pick (h := fun po s => match po with
    | Policy.holdAll => s.holdAll fc
    | .continue | .holdAxis | .invalid => s) (fun s => s.page.policy fc) (fun _ _ => rfl) fun po => ?_
  cases po
  case holdAll => exact neutral_holdAll fc
  all_goals exact .id

theorem neutral_judgeSources : Neutral State.judgeSources := by
  refine .ite (fun s => (!s.profileActive) = true) (fun _ _ => Iff.rfl) .id ?_
  refine .pick (h := fun (x : (Bool × Bool) × Bool × Bool) s =>
    let t := s.setSourceFlags x.1.1 x.1.2
    let u := if x.1.1 && !x.2.1 then t.applyDevicePolicy .sourceLost else t
    if x.1.2 && !x.2.2 then u.applyDevicePolicy .sourceFallback else u)
    (fun s => (s.sourceClasses, s.faults.sourceLost, s.faults.sourceFallback)) (fun _ _ => rfl) fun x => ?_
  have flagged := neutral_setSourceFlags x.1.1 x.1.2
  have lost : Neutral fun s => if (x.1.1 && !x.2.1) = true then (s.setSourceFlags x.1.1 x.1.2).applyDevicePolicy .sourceLost
      else s.setSourceFlags x.1.1 x.1.2 :=
    .ite (fun _ => (x.1.1 && !x.2.1) = true) (fun _ _ => Iff.rfl) (.comp (neutral_applyDevicePolicy _) flagged) flagged
  exact .ite (fun _ => (x.1.2 && !x.2.2) = true) (fun _ _ => Iff.rfl) (.comp (neutral_applyDevicePolicy _) lost) lost

theorem neutral_measureDwell (a : AxisId) : Neutral fun s => s.measureDwell a :=
  .ite (fun s => (s.axis a).limit = true) (fun _ _ => Iff.rfl)
    (.ite (fun s => (s.axis a).dwellTimer = none ∧ (s.axis a).limitDwellActive = false) (fun _ _ => Iff.rfl) (fun _ _ => rfl) .id)
    (.comp (neutral_setAxisFlag .limitDwell a false) fun _ _ => rfl)

theorem neutral_compose (a : AxisId) : Neutral fun s => s.compose a := by
  refine .comp (neutral_measureDwell a) ?_
  refine .pick (h := fun (r : Composed × Axis) s =>
    (((s.setAxis a { r.2 with correction := r.1.correction, output := r.1.output, rate := r.1.rate, limit := r.1.limit }).mark
      (.output a)).mark (.correction a)).markIf (r.1.rate != r.2.rate || r.1.limit != r.2.limit) (.axisStatus a))
    (fun s => (composed s.page a s.severity.state (s.excitation a) (s.axis a), s.axis a)) (fun _ _ => rfl) fun r => ?_
  exact .comp (neutral_markIf _ _) fun _ _ => rfl

theorem neutral_markRefresh (a : AxisId) : Neutral fun s => s.markRefresh a :=
  .ite (fun s => (s.axis a).refreshPending = true) (fun _ _ => Iff.rfl) .id fun _ _ => rfl

theorem neutral_recordIntent (a : AxisId) (addr : Addr) (data : Word) (lanes : Lanes) : Neutral fun s => s.recordIntent a addr data lanes := by
  have flagged : Neutral fun s => ((s.setAxis a { s.axis a with
      intent := mergedIntent (s.axis a) data lanes, intentValid := true, outAddr := some addr }).mark
      (.intent a)).setAxisFlag .controllerSilent a false :=
    .comp (neutral_setAxisFlag .controllerSilent a false) fun _ _ => rfl
  have silenced : Neutral fun s => s.startSilence a := fun _ _ => rfl
  have composed := Neutral.comp (neutral_compose a) (Neutral.comp (neutral_setAxisState a .stabilising) (Neutral.comp silenced flagged))
  exact .ite (fun s => (s.axis a).state.composes = true) (fun _ _ => Iff.rfl) composed flagged

theorem neutral_startAxis (a : AxisId) : Neutral fun s => s.startAxis a :=
  .comp (g := fun t => t.markAxisWords a) (fun _ _ => rfl) <| .comp (neutral_setAxisState a .stabilising) <|
    .comp (neutral_markRefresh a) fun _ _ => rfl

theorem neutral_stopAxis (a : AxisId) : Neutral fun s => s.stopAxis a := by
  have cleared : Neutral fun s =>
      (s.setAxis a { s.axis a with causes := .empty, silenceTimer := none, dwellTimer := none }).clearRefresh a :=
    .comp (neutral_clearRefresh a) fun _ _ => rfl
  exact .comp (neutral_mark (.axisStatus a)) <| .comp (neutral_setAxisState a .off) <| .comp (neutral_setAxisFlag .limitDwell a false) <|
    .comp (neutral_setAxisFlag .controllerSilent a false) cleared

theorem neutral_releaseAxis (a : AxisId) : Neutral fun s => s.releaseAxis a := by
  have written : Neutral fun s => s.setAxis a (releasedAxis s.page a (s.axis a)) := fun _ _ => rfl
  have composed := Neutral.comp (neutral_compose a) (Neutral.comp (neutral_setAxisState a .stabilising) written)
  have shown : Neutral fun s => s.markAxisWords a := fun _ _ => rfl
  have whole := Neutral.comp shown (Neutral.comp (neutral_markRefresh a) composed)
  exact whole

/-! ### The selection -/

theorem neutral_endCapture (k : Capture) (r : ZeroResult) : Neutral fun s => s.endCapture k r :=
  .comp (neutral_raise _) fun _ _ => rfl

theorem neutral_abortCapture : Neutral State.abortCapture :=
  .ite (fun s => s.capture.state = .idle) (fun _ _ => Iff.rfl) .id
    (.pick (h := fun k s => s.endCapture k (.source k.source)) (·.capture) (fun _ _ => rfl) fun k => neutral_endCapture k _)

theorem neutral_abortBurst : Neutral State.abortBurst :=
  .ite (fun s => s.burst.state = .running) (fun _ _ => Iff.rfl)
    (.pick (h := fun b s => s.endBurst b (.aborted b.axis)) (·.burst) (fun _ _ => rfl) fun b => neutral_endBurst b _) .id

theorem neutral_select (new : Option Source) : Neutral fun s => s.select new := by
  have aborted : Neutral fun s => (({ s with selected := new }.raise .sourceSwitch).mark .sourceState).abortCapture :=
    .comp neutral_abortCapture <| .comp (neutral_mark _) <| .comp (neutral_raise _) fun _ _ => rfl
  have switched : Neutral fun s => s.switched new :=
    .ite (fun _ => new = none) (fun _ _ => Iff.rfl) (.comp neutral_abortBurst aborted) aborted
  exact .ite (fun s => s.selected = new) (fun _ _ => Iff.rfl) .id (.comp neutral_judgeSources switched)

theorem neutral_reviewSelection : Neutral State.reviewSelection :=
  .ite (fun s => (s.profileActive && s.selected.isNone) = true) (fun _ _ => Iff.rfl)
    (.pick (h := fun new s => s.select new) (·.sourceToSelect) (fun _ _ => rfl) neutral_select) .id

/-! ### Applies, but for the bindings -/

theorem neutral_activateProfile : Neutral State.activateProfile := by
  refine .pick (h := fun b s => { s with profile := { s.profile with active := some s.profile.shadow } }.markIf b .profileState)
    (fun s => !s.profileActive) (fun _ _ => rfl) fun b => ?_
  exact .comp (neutral_markIf b _) fun _ _ => rfl

theorem neutral_unsetAddresses : Neutral State.unsetAddresses := .forAxes fun _ _ _ => rfl

theorem neutral_clearRefreshCounts : Neutral State.clearRefreshCounts := .forAxes fun _ _ _ => rfl

theorem neutral_takeUpBoost (old : Option Page) : Neutral fun s => s.takeUpBoost old :=
  .ite (fun s => (!s.page.boostEnable) = true) (fun _ _ => Iff.rfl) (fun _ _ => rfl) <|
    .ite (fun s => old.map Page.boostSettings = some s.page.boostSettings) (fun _ _ => Iff.rfl) .id <|
      .ite (fun s => s.page.boostEnable = true) (fun _ _ => Iff.rfl) (fun _ _ => rfl) .id

theorem neutral_takeUpRate : Neutral State.takeUpRate := by
  refine .pick (h := fun rate s => match rate with
    | none => s
    | some r => if r = s.timecode.rate then s
      else { s with timecode := { s.timecode with rate := r, valid := false, pendingSet := none } }.mark .timecodeState)
    (fun s => s.page.frameRate) (fun _ _ => rfl) fun rate => ?_
  cases rate with
  | none => exact .id
  | some r => exact .ite (fun s => r = s.timecode.rate) (fun _ _ => Iff.rfl) .id fun _ _ => rfl

theorem neutral_takeUpRing (old : Option Page) : Neutral fun s => s.takeUpRing old :=
  .ite (fun s => old.map Page.ringSettings = some s.page.ringSettings) (fun _ _ => Iff.rfl) .id fun _ _ => rfl

theorem neutral_takeUpFaults (old : Option Page) : Neutral fun s => s.takeUpFaults old := by
  have taken : Neutral fun s => s.lostTaken old :=
    .ite (fun s => (old.isNone && s.timecode.frameLost) = true) (fun _ _ => Iff.rfl) (neutral_setFrameLost true) .id
  exact .comp neutral_judgeStat <| .comp neutral_judgeHeadline <| .comp taken neutral_judgeSources

/-- What an accepted apply does after the window table. -/
def State.takeUpRest (s : State) (old : Option Page) : State :=
  (((s.clearRefreshCounts.takeUpBoost old).takeUpRate).takeUpRing old).reviewSelection.takeUpFaults old

theorem neutral_takeUpRest (old : Option Page) : Neutral fun s => s.takeUpRest old :=
  .comp (neutral_takeUpFaults old) <| .comp neutral_reviewSelection <| .comp (neutral_takeUpRing old) <| .comp neutral_takeUpRate <|
    .comp (neutral_takeUpBoost old) neutral_clearRefreshCounts

/-! ### Commands -/

/-- A command whose result and effect do not depend on the C-port. -/
def NeutralCommand (f : State → CmdResult × State) : Prop := ∀ s c, f (s.withCport c) = ((f s).1, (f s).2.withCport c)

namespace NeutralCommand

variable {f g : State → CmdResult × State}

theorem pure (r : CmdResult) {h : State → State} (hh : Neutral h) : NeutralCommand fun s => (r, h s) := fun s c => by
  simp only [hh s c]

theorem refuse (r : CmdResult) : NeutralCommand fun s => (r, s) := .pure r .id

theorem ite (P : State → Prop) [DecidablePred P] (same : ∀ s c, P (s.withCport c) ↔ P s) (hf : NeutralCommand f) (hg : NeutralCommand g) :
    NeutralCommand fun s => if P s then f s else g s := fun s c => by
  by_cases h : P s
  · simp only [if_pos h, if_pos ((same s c).mpr h)]
    exact hf s c
  · simp only [if_neg h, if_neg (mt (same s c).mp h)]
    exact hg s c

theorem pick {α : Type} {h : α → State → CmdResult × State} (x : State → α) (same : ∀ s c, x (s.withCport c) = x s)
    (each : ∀ a, NeutralCommand (h a)) : NeutralCommand fun s => h (x s) s := fun s c => by
  simp only [same]
  exact each (x s) s c

end NeutralCommand

theorem neutralCommand_start (a : AxisId) : NeutralCommand (startCommand a) :=
  .ite (fun s => (!s.page.enabled a) = true) (fun _ _ => Iff.rfl) (.refuse _) <|
    .ite (fun s => (s.axis a).state ≠ .off) (fun _ _ => Iff.rfl) (.refuse _) <|
      .ite (fun s => (!(s.axis a).intentValid) = true) (fun _ _ => Iff.rfl) (.refuse _) <|
        .ite (fun s => s.selected = none) (fun _ _ => Iff.rfl) (.refuse _) <|
          .ite (fun s => s.holdAllActive = true) (fun _ _ => Iff.rfl) (.refuse _) (.pure _ (neutral_startAxis a))

theorem neutralCommand_stop (a : AxisId) : NeutralCommand (stopCommand a) :=
  .ite (fun s => (s.axis a).state = .off) (fun _ _ => Iff.rfl) (.refuse _) (.pure _ (neutral_stopAxis a))

theorem neutralCommand_park (a : AxisId) : NeutralCommand (parkCommand a) :=
  .ite (fun s => (s.axis a).state = .off) (fun _ _ => Iff.rfl) (.refuse _) (.pure _ (neutral_hold a .command))

theorem neutralCommand_release (a : AxisId) : NeutralCommand (releaseCommand a) :=
  .ite (fun s => (s.axis a).state ≠ .held) (fun _ _ => Iff.rfl) (.refuse _) <|
    .ite (fun s => s.releaseBlocked a = true) (fun _ _ => Iff.rfl) (.refuse _) (.pure _ (neutral_releaseAxis a))

theorem neutralCommand_zero : NeutralCommand zeroCommand := by
  refine .pick (h := fun selected s => match selected with
    | none => (.noSource, s)
    | some src => if s.capture.state = .running then (.busy, s) else (.accepted, { s with
        capture := { state := .running, source := src, sums := .zero, count := 0 }, zeroResult := .running src }.mark .zeroResult))
    (fun s => s.selected) (fun _ _ => rfl) fun selected => ?_
  cases selected with
  | none => exact .refuse _
  | some src => exact .ite (fun s => s.capture.state = .running) (fun _ _ => Iff.rfl) (.refuse _) (fun _ _ => rfl)

theorem neutralCommand_excite : NeutralCommand exciteCommand :=
  .ite (fun s => (!s.profile.shadow.exciteRequest.inRange) = true) (fun _ _ => Iff.rfl) (.refuse _) <|
    .ite (fun s => s.burst.state = .running) (fun _ _ => Iff.rfl) (.refuse _) <|
      .ite (fun s => (s.axis s.profile.shadow.exciteRequest.axisId).state ≠ .stabilising) (fun _ _ => Iff.rfl) (.refuse _) <|
        .ite (fun s => s.selected = none) (fun _ _ => Iff.rfl) (.refuse _) fun _ _ => rfl

theorem neutralCommand_tcSet : NeutralCommand tcSetCommand := by
  have held : Neutral fun s => { s with timecode := { s.timecode with pendingSet := some s.profile.shadow.requestedTime } }.markIf
      s.timecode.pendingSet.isNone .timecodeState := by
    refine .pick (h := fun b s =>
      { s with timecode := { s.timecode with pendingSet := some s.profile.shadow.requestedTime } }.markIf b .timecodeState)
      (fun s => s.timecode.pendingSet.isNone) (fun _ _ => rfl) fun b => ?_
    exact .comp (neutral_markIf b _) fun _ _ => rfl
  exact .ite (fun s => (!s.profile.shadow.requestedTime.inRange s.timecode.rate.perSecond) = true) (fun _ _ => Iff.rfl) (.refuse _)
    (.pure _ held)

theorem neutralCommand_sourceReturn : NeutralCommand sourceReturnCommand := by
  have selects : Neutral fun s => s.select (some s.page.primary) :=
    .pick (h := fun p s => s.select (some p)) (fun s => s.page.primary) (fun _ _ => rfl) fun p => neutral_select (some p)
  exact .ite (fun s => s.selected = some s.page.primary) (fun _ _ => Iff.rfl) (.refuse _) <|
    .ite (fun s => (!s.isLive s.page.primary) = true) (fun _ _ => Iff.rfl) (.refuse _) (.pure _ selects)

theorem neutralCommand_owner (code : Nat) (a : AxisId) : NeutralCommand (ownerCommand code a) := by
  unfold ownerCommand
  split
  · exact neutralCommand_start a
  · exact neutralCommand_stop a
  · exact neutralCommand_park a
  · exact neutralCommand_release a
  · exact neutralCommand_zero
  · exact neutralCommand_excite
  · exact neutralCommand_tcSet
  · exact neutralCommand_sourceReturn
  · exact .refuse _

theorem neutralCommand_run (code operand : Byte) : NeutralCommand (runCommand code operand) :=
  .ite (fun s => (!s.profile.sweep.isDone) = true) (fun _ _ => Iff.rfl) (.refuse _) <|
    .ite (fun s => (!s.profileActive && code != 7) = true) (fun _ _ => Iff.rfl) (.refuse _) <|
      .ite (fun _ => (takesAxis code.toNat && decide (3 < operand.toNat)) = true) (fun _ _ => Iff.rfl) (.refuse _)
        (neutralCommand_owner _ _)

theorem neutral_reportCommand (code : Byte) (r : CmdResult) : Neutral fun s => s.reportCommand code r :=
  .comp (neutral_raise _) fun _ _ => rfl

theorem neutral_command (w : Word) : Neutral fun s => s.command w := by
  refine .ite (fun _ => highByte w = 0) (fun _ _ => Iff.rfl) .id fun s c => ?_
  simp only [neutralCommand_run _ _ s c]
  exact neutral_reportCommand _ _ _ c

end Sys2Proof.Machine
end

section
/-! Acceptances and the C-port: a hand-on to the Profile Unit binds the queued writes anew and leaves the rest of the C-port (R97), and what is
stretched is not looked at by an acceptance (R99). -/

namespace Sys2Proof.Machine

/-! ### What a hand-on makes of the queue -/

/-- From `s` an operation does the same with any C-port, but for the entries of its queue, which `r` changes one by one. -/
def Rebinds (f : State → State) (s : State) (r : QEntry → QEntry) : Prop :=
  ∀ c, f (s.withCport c) = (f s).withCport { c with queue := c.queue.map r }

theorem Neutral.rebinds {f : State → State} (hf : Neutral f) (s : State) : Rebinds f s fun e => e := fun c => by
  rw [List.map_id_fun']
  exact hf s c

/-- Operations that do not look at the C-port before and after. -/
theorem Rebinds.between {f g h : State → State} {s : State} {r : QEntry → QEntry} (hf : Rebinds f (g s) r) (hg : Neutral g) (hh : Neutral h) :
    Rebinds (fun s => h (f (g s))) s r := fun c => by
  simp only [hg s c, hf c]
  exact hh _ _

/-- The change that a new window table makes of a queue entry. -/
def State.tableRebind (s : State) (old : Option Page) : QEntry → QEntry :=
  if tableChanged old s.page = true then s.rebindEntry else fun e => e

theorem rebinds_takeUpTable (s : State) (old : Option Page) : Rebinds (fun s => s.takeUpTable old) s (s.tableRebind old) := fun c => by
  have page : (s.withCport c).page = s.page := rfl
  simp only [State.takeUpTable, State.tableRebind, page]
  by_cases changed : tableChanged old s.page = true
  · simp only [if_pos changed]
    calc (s.withCport c).rebindQueue.unsetAddresses
        = (s.withCport { c with queue := c.queue.map s.rebindEntry }).unsetAddresses := rfl
      _ = s.unsetAddresses.withCport { c with queue := c.queue.map s.rebindEntry } := neutral_unsetAddresses _ _
      _ = (s.unsetAddresses.withCport s.rebindQueue.cport).withCport { c with queue := c.queue.map s.rebindEntry } := rfl
      _ = (s.withCport s.rebindQueue.cport).unsetAddresses.withCport { c with queue := c.queue.map s.rebindEntry } := by
        rw [neutral_unsetAddresses]
  · simp only [if_neg changed, List.map_id_fun']
    rfl

theorem State.takeUpProfile_stages (s : State) :
    s.takeUpProfile = (s.activateProfile.takeUpTable s.profile.active).takeUpRest s.profile.active := rfl

theorem rebinds_takeUpProfile (s : State) : Rebinds State.takeUpProfile s (s.activateProfile.tableRebind s.profile.active) := fun c =>
  (rebinds_takeUpTable s.activateProfile s.profile.active).between (h := fun s' => s'.takeUpRest s.profile.active) neutral_activateProfile
    (neutral_takeUpRest _) c

theorem neutral_applyShown (r : ApplyResult) (o : Offset) : Neutral fun s => s.applyShown r o := .comp (neutral_raise _) fun _ _ => rfl

/-- The change that an apply request makes of a queue entry. -/
def State.applyRebind (s : State) : QEntry → QEntry :=
  if s.judgeApply.1 = .applied then
    ((s.applyShown s.judgeApply.1 s.judgeApply.2).activateProfile).tableRebind (s.applyShown s.judgeApply.1 s.judgeApply.2).profile.active
  else fun e => e

theorem rebinds_applyRequest (s : State) : Rebinds State.applyRequest s s.applyRebind := fun c => by
  have judged : (s.withCport c).judgeApply = s.judgeApply := rfl
  have shown : (s.withCport c).applyShown s.judgeApply.1 s.judgeApply.2 = (s.applyShown s.judgeApply.1 s.judgeApply.2).withCport c :=
    neutral_applyShown _ _ s c
  rw [State.applyRequest_eq, State.applyRequest_eq, judged, shown, State.applyRebind]
  split
  · exact rebinds_takeUpProfile _ c
  · simp only [List.map_id_fun']
    rfl

/-- The change that a profile word handed on makes of a queue entry. -/
def State.handOnRebind (s : State) (w : Offset) : QEntry → QEntry :=
  if w = 1 ∧ s.profile.shadow.word 1 = applyCode then s.applyRebind else fun e => e

theorem rebinds_handOn (s : State) (w : Offset) : Rebinds (fun s => s.handOn w) s (s.handOnRebind w) := by
  have shadow : ∀ c, (s.withCport c).profile.shadow = s.profile.shadow := fun _ => rfl
  unfold State.handOnRebind
  by_cases command : w = 0
  · subst command
    rw [if_neg fun h => absurd h.1 (by decide)]
    exact Neutral.rebinds (f := fun s => s.command (s.profile.shadow.word 0))
      (.pick (h := fun d s => s.command d) (fun s => s.profile.shadow.word 0) (fun _ _ => rfl) neutral_command) s
  · by_cases request : w = 1 ∧ s.profile.shadow.word 1 = applyCode
    · obtain ⟨rfl, holds⟩ := request
      rw [if_pos ⟨rfl, holds⟩]
      intro c
      simp only [State.handOn, if_neg command, if_true, shadow, if_pos holds]
      exact rebinds_applyRequest s c
    · rw [if_neg request]
      intro c
      have nothing : ∀ t : State, t.profile.shadow = s.profile.shadow → t.handOn w = t := fun t same => by
        by_cases one : w = 1
        · have other : t.profile.shadow.word 1 ≠ applyCode := fun holds => request ⟨one, by rwa [← same]⟩
          rw [State.handOn, if_neg command, if_pos one, if_neg other]
        · rw [State.handOn, if_neg command, if_neg one]
      simp only [nothing s rfl, nothing (s.withCport c) rfl, List.map_id_fun']
      rfl

theorem State.classify_eq_profileWord {s : State} {addr : Addr} {w : Offset} (h : s.classify addr = .profileWord w) :
    addr = addrAt s.strapPage w := by
  unfold State.classify at h
  split at h
  next page =>
    cases h
    rw [← page, addrAt_page_offset]
  next =>
    split_ifs at h
    split at h
    · exact absurd h (by unfold Window.txnClass; split <;> simp)
    · cases h

theorem State.rebindEntry_profile (s : State) (v : Offset) (data : Word) (lanes : Lanes) (bind : Option AxisId) :
    s.rebindEntry { txn := .write (addrAt s.strapPage v) data lanes, bind := bind } =
      { txn := .write (addrAt s.strapPage v) data lanes, bind := bind } := by
  simp [State.rebindEntry]

theorem State.tableRebind_profile (s : State) (old : Option Page) (v : Offset) (data : Word) (lanes : Lanes) (bind : Option AxisId) :
    s.tableRebind old { txn := .write (addrAt s.strapPage v) data lanes, bind := bind } =
      { txn := .write (addrAt s.strapPage v) data lanes, bind := bind } := by
  unfold State.tableRebind
  split
  · exact s.rebindEntry_profile v data lanes bind
  · rfl

/-- A write of a profile word keeps its binding. -/
theorem State.handOnRebind_profile (s : State) (w v : Offset) (data : Word) (lanes : Lanes) (bind : Option AxisId) :
    s.handOnRebind w { txn := .write (addrAt s.strapPage v) data lanes, bind := bind } =
      { txn := .write (addrAt s.strapPage v) data lanes, bind := bind } := by
  unfold State.handOnRebind State.applyRebind
  split
  · split
    · have strap : (s.applyShown s.judgeApply.1 s.judgeApply.2).activateProfile.strapPage = s.strapPage := by simp [State.applyShown]
      rw [← strap]
      exact State.tableRebind_profile _ _ v data lanes bind
    · rfl
  · rfl

/-! ### A profile word handed on -/

/-- The acceptance of a write of a profile word, whose merged word is handed on with the write queued. -/
theorem State.acceptClassified_profile {s : State} {addr : Addr} {w : Offset} (h : s.classify addr = .profileWord w) (data : Word)
    (lanes : Lanes) :
    s.acceptClassified addr data lanes =
      ((s.mergeShadow w data lanes).handOn w).withCport { s.cport with
        queue := s.cport.queue.map ((s.mergeShadow w data lanes).handOnRebind w) ++ [{ txn := .write addr data lanes, bind := none }] } := by
  have entry := (s.mergeShadow w data lanes).handOnRebind_profile w w data lanes none
  have strap : (s.mergeShadow w data lanes).strapPage = s.strapPage := rfl
  rw [strap, ← State.classify_eq_profileWord h] at entry
  have hands := rebinds_handOn (s.mergeShadow w data lanes) w
    { s.cport with queue := s.cport.queue ++ [{ txn := .write addr data lanes, bind := none }] }
  rw [State.acceptClassified, h]
  refine hands.trans ?_
  simp only [List.map_append, List.map_cons, List.map_nil, entry]

end Sys2Proof.Machine
end

section
/-! Writes of the arm controller by their class (R86 to R90, R94 to R96). -/

namespace Sys2Proof.Machine

section write

variable {s : State} {addr : Addr} {lanes : Lanes} (takes : CportTakes s) (enabled : lanes ≠ .neither) (data : Word)
include takes enabled

theorem exec_controllerWrite_of_takes : exec (.controllerWrite addr data lanes) s = .next (s.acceptClassified addr data lanes) := by
  refine congrArg Host.Outcome.next ((State.offer_of_takes takes _).trans ?_)
  simp [State.accept, enabled]

theorem exec_controllerWrite_of_stray (stray : s.acceptClassified addr data lanes = s.stray) :
    ∃ t, exec (.controllerWrite addr data lanes) s = .next t ∧ t = { s with report := t.report } ∧ Reports s t [.strayWrite] [] := by
  refine ⟨s.stray, ?_, s.raise_eq_setReport .strayWrite, reports_raise s .strayWrite⟩
  rw [exec_controllerWrite_of_takes takes enabled, stray]

end write

/-- A profile word that hands nothing on: neither a command nor an apply. -/
theorem State.handOn_of_nothing {s : State} {w : Offset} (command : w = 0 → highByte (s.profile.shadow.word w) = 0)
    (apply : w = 1 → s.profile.shadow.word w ≠ applyCode) : s.handOn w = s := by
  unfold State.handOn
  by_cases zero : w = 0
  · subst zero
    rw [if_pos rfl, State.command, if_pos (command rfl)]
  · by_cases one : w = 1
    · subst one
      rw [if_neg zero, if_pos rfl, if_neg (apply rfl)]
    · rw [if_neg zero, if_neg one]

theorem State.mergeShadow_word (s : State) (w : Offset) (data : Word) (lanes : Lanes) :
    (s.mergeShadow w data lanes).profile.shadow.word w = mergeLanes lanes data (s.profile.shadow.word w) :=
  Page.word_setWord_same _ _ _

/-- Settles O37: each class by its branch; a word handed on does the same with either write queued, which its rebinding leaves. -/
theorem controllerWriteActsByItsClass : Obligations.ControllerWriteActsByItsClass := by
  intro s addr data lanes takes enabled pass discard
  have run := exec_controllerWrite_of_takes (addr := addr) takes enabled data
  have passes : s.acceptClassified addr data lanes = s.enqueue (.write addr data lanes) none → pass := fun same => by
    rw [same] at run
    exact run
  have strays : s.acceptClassified addr data lanes = s.stray → discard := exec_controllerWrite_of_stray takes enabled data
  refine ⟨?_, ?_, fun w decided other => ?_, fun decided => ?_,
    fun a decided on => ?_, fun a decided off => ?_, fun decided => ?_⟩
  · intro w decided merged command apply
    have merges : mergeLanes lanes data (s.profile.shadow.word w) = merged := rfl
    have word := s.mergeShadow_word w data lanes
    rw [merges] at word
    rw [State.acceptClassified, decided] at run
    refine run.trans (congrArg _ ?_)
    exact State.handOn_of_nothing (s := (s.mergeShadow w data lanes).enqueue _ none) (fun zero => by rw [← command zero, ← word]; rfl)
      (fun one holds => apply one (by rw [← word]; exact holds))
  · intro w decided merged hands
    have both : s.mergeShadow w merged .both = s.mergeShadow w data lanes := by
      simp only [State.mergeShadow, mergeLanes_both]
      rfl
    have here := State.classify_eq_profileWord decided
    refine ⟨_, exec_controllerWrite_of_takes (addr := addrAt s.strapPage w) takes (by decide) merged, ?_, ?_⟩
    · rw [State.acceptClassified_profile (s.classify_profile w), ← here]
      simp [State.withCport]
    · rw [run, State.acceptClassified_profile decided, State.acceptClassified_profile (s.classify_profile w), both]
      simp [State.withCport]
  · exact strays (by simp only [State.acceptClassified, decided]; exact if_neg other)
  · exact strays (by simp [State.acceptClassified, decided])
  · exact strays (by simp [State.acceptClassified, decided, State.axisActive_iff, on])
  · exact passes (by simp [State.acceptClassified, decided, State.axisActive, off, AxisState.active])
  · exact passes (by simp [State.acceptClassified, decided])

end Sys2Proof.Machine
end

section
/-! What a closed C-port stretches (R99, R100, R108): an acceptance does not look at what is stretched, so that transactions admitted when the
C-port opens come to what they would have come to had they been offered one after another right then. -/

namespace Sys2Proof.Machine

/-! ### Operations that do not look at what is stretched -/

/-- A state with other transactions stretched. -/
def State.withOffered (s : State) (offers : List BusTxn) : State := s.withCport { s.cport with offered := offers }

theorem State.withOffered_self (s : State) : s.withOffered s.cport.offered = s := rfl

/-- An operation that neither reads nor writes what is stretched. -/
def OfferBlind (f : State → State) : Prop := ∀ s offers, f (s.withOffered offers) = (f s).withOffered offers

theorem OfferBlind.offered {f : State → State} (blind : OfferBlind f) (s : State) : (f s).cport.offered = s.cport.offered :=
  congrArg (fun t => t.cport.offered) (blind s s.cport.offered)

theorem Rebinds.withOffered {f : State → State} {s : State} {r : QEntry → QEntry} (h : Rebinds f s r) (offers : List BusTxn) :
    f (s.withOffered offers) = (f s).withOffered offers := by
  have left : f s = (f s).withCport { s.cport with queue := s.cport.queue.map r } := h s.cport
  rw [State.withOffered, h, State.withOffered, left]
  rfl

theorem Neutral.offerBlind {f : State → State} (h : Neutral f) : OfferBlind f := fun s offers => (h.rebinds s).withOffered offers

/-! ### Acceptances -/

theorem offerBlind_stray : OfferBlind State.stray := (neutral_raise .strayWrite).offerBlind

theorem neutral_moveConsumer (q : Nat) : Neutral fun s => s.moveConsumer q := fun s c =>
  neutral_markIf (q != s.ring.consumer) .ringConsumer { s with ring := { s.ring with consumer := q } } c

theorem offerBlind_consumerWrite (addr : Addr) (data : Word) (lanes : Lanes) : OfferBlind fun s => s.consumerWrite addr data lanes := by
  intro s offers
  have valid : (s.withOffered offers).consumerValid ((s.withOffered offers).proposedConsumer data lanes) =
    s.consumerValid (s.proposedConsumer data lanes) := rfl
  have moved : (s.withOffered offers).moveConsumer ((s.withOffered offers).proposedConsumer data lanes) =
      (s.moveConsumer (s.proposedConsumer data lanes)).withOffered offers :=
    (neutral_moveConsumer (s.proposedConsumer data lanes)).offerBlind s offers
  simp only [State.consumerWrite, valid]
  split
  · rw [moved]
    rfl
  · exact offerBlind_stray s offers

theorem offerBlind_acceptClassified (addr : Addr) (data : Word) (lanes : Lanes) :
    OfferBlind fun s => s.acceptClassified addr data lanes := by
  intro s offers
  have decides : (s.withOffered offers).classify addr = s.classify addr := rfl
  simp only [State.acceptClassified, decides]
  split
  next w _ => exact (rebinds_handOn ((s.mergeShadow w data lanes).enqueue (.write addr data lanes) none) w).withOffered offers
  next w _ =>
    split
    · exact offerBlind_consumerWrite addr data lanes s offers
    · exact offerBlind_stray s offers
  next => exact offerBlind_stray s offers
  next a _ => exact (neutral_recordIntent a addr data lanes).offerBlind (s.enqueue (.write addr data lanes) (some a)) offers
  next a _ =>
    have active : (s.withOffered offers).axisActive a = s.axisActive a := rfl
    rw [active]
    split
    · exact offerBlind_stray s offers
    · rfl
  next => rfl

theorem offerBlind_accept (t : BusTxn) : OfferBlind fun s => s.accept t := by
  intro s offers
  cases t with
  | read addr lanes => rfl
  | write addr data lanes =>
    simp only [State.accept]
    split
    · rfl
    · exact offerBlind_acceptClassified addr data lanes s offers

theorem State.acceptOffers_withOffered (ts : List BusTxn) (s : State) (offers : List BusTxn) :
    (s.withOffered offers).acceptOffers ts = s.acceptOffers ts := by
  induction ts generalizing s with
  | nil => rfl
  | cons t rest ih =>
    have same : (s.withOffered offers).cportOpen = s.cportOpen := rfl
    simp only [State.acceptOffers, same, offerBlind_accept t s offers, ih]
    rfl

/-! ### Transactions offered in turn -/

theorem BusTxn.exec_command (t : BusTxn) (s : State) : exec t.command s = .next (s.offer t) := by
  cases t <;> rfl

theorem offeredInTurn_of_closed {s : State} (closed : s.cportOpen = false) (ts : List BusTxn) :
    offeredInTurn ts s = .next (s.withOffered (s.cport.offered ++ ts)) := by
  induction ts generalizing s with
  | nil => rw [List.append_nil, State.withOffered_self, offeredInTurn]
  | cons t rest ih =>
    have still : (s.withOffered (s.cport.offered ++ [t])).cportOpen = false := closed
    simp only [offeredInTurn, BusTxn.exec_command, State.offer_of_closed closed]
    refine (ih still).trans ?_
    simp [State.withOffered, State.withCport]

/-- With nothing stretched before, transactions offered in turn come to what the same transactions come to as stretched ones that are looked
at again. -/
theorem offeredInTurn_eq_acceptOffers {s : State} (nothing : s.cport.offered = []) (ts : List BusTxn) :
    offeredInTurn ts s = .next (s.acceptOffers ts) := by
  induction ts generalizing s with
  | nil => rw [offeredInTurn, State.acceptOffers, State.offered_nil nothing]
  | cons t rest ih =>
    cases takes : s.cportOpen with
    | true =>
      simp only [offeredInTurn, BusTxn.exec_command, State.offer_of_takes ⟨takes, nothing⟩, State.acceptOffers, takes, if_true]
      exact ih (by rw [State.accept_offered, nothing])
    | false =>
      rw [offeredInTurn_of_closed takes, nothing, State.acceptOffers, takes]
      rfl

/-! ### What opens the C-port -/

/-- The operation comes to what it comes to with nothing stretched, and what was stretched offered in turn after it. -/
def ComesInTurn (f : State → State) (s : State) : Prop := offeredInTurn s.cport.offered (f (s.withOffered [])) = .next (f s)

/-- An operation that looks at the stretched transactions again once it has run. -/
theorem OfferBlind.comesInTurn {f : State → State} (blind : OfferBlind f) (s : State) : ComesInTurn (fun s => (f s).admitStretched) s := by
  have nothing : (f (s.withOffered [])).cport.offered = [] := blind.offered _
  calc offeredInTurn s.cport.offered (f (s.withOffered [])).admitStretched
      = offeredInTurn s.cport.offered (f (s.withOffered [])) := by rw [State.admitStretched_nil nothing]
    _ = .next (((f s).withOffered []).acceptOffers s.cport.offered) := by rw [offeredInTurn_eq_acceptOffers nothing, blind]
    _ = .next (f s).admitStretched := by rw [State.acceptOffers_withOffered, State.admitStretched, blind.offered]

/-- With a closed C-port the offers of a state that nothing has changed stay stretched. -/
theorem comesInTurn_id {s : State} (closed : s.cportOpen = false) : ComesInTurn (fun s => s) s :=
  offeredInTurn_of_closed (s := s.withOffered []) closed _

theorem offerBlind_grantEntry (e : QEntry) (rest : List QEntry) : OfferBlind fun s => s.grantEntry e rest := by
  intro s offers
  have satisfied : (s.withOffered offers).satisfies e = s.satisfies e := rfl
  simp only [State.grantEntry_eq, satisfied]
  split
  next a _ => exact (neutral_clearRefresh a).offerBlind (s.headGranted (s.carried e) rest) offers
  next => rfl

theorem comesInTurn_grantHead {s : State} (closed : s.cportOpen = false) : ComesInTurn State.grantHead s := by
  have grants : (s.withOffered []).grantsHead = s.grantsHead := rfl
  have queue : (s.withOffered []).cport.queue = s.cport.queue := rfl
  simp only [ComesInTurn, State.grantHead, grants, queue]
  split
  · split
    · exact comesInTurn_id closed
    next e rest _ => exact (offerBlind_grantEntry e rest).comesInTurn s
  · exact comesInTurn_id closed

/-- The return of a read before the C-port is looked at again. -/
def State.readReturned (s : State) (bind : Option AxisId) (addr : Addr) : State :=
  let t := if addr = s.eventPendingAddr then s.clearEvents (s.returnedWord bind addr) else s
  { t with cport := { t.cport with readData := some (s.returnedWord bind addr) } }.freePort

theorem State.returnRead_eq (s : State) (bind : Option AxisId) (addr : Addr) :
    s.returnRead bind addr = (s.readReturned bind addr).admitStretched := rfl

theorem offerBlind_readReturned (bind : Option AxisId) (addr : Addr) : OfferBlind fun s => s.readReturned bind addr := by
  intro s offers
  have word : (s.withOffered offers).returnedWord bind addr = s.returnedWord bind addr := rfl
  have events : (s.withOffered offers).eventPendingAddr = s.eventPendingAddr := rfl
  simp only [State.readReturned, word, events]
  split <;> rfl

theorem comesInTurn_completeRead {s : State} (closed : s.cportOpen = false) : ComesInTurn State.completeRead s := by
  have busy : (s.withOffered []).mport.busy = s.mport.busy := rfl
  simp only [ComesInTurn, State.completeRead, busy]
  split
  · exact comesInTurn_id closed
  next t _ =>
    split
    next bind _ => exact (offerBlind_readReturned bind t.addr).comesInTurn s
    all_goals exact comesInTurn_id closed

theorem comesInTurn_completeEventRead {s : State} (closed : s.cportOpen = false) : ComesInTurn State.completeEventRead s := by
  have busy : (s.withOffered []).mport.busy = s.mport.busy := rfl
  have events : (s.withOffered []).eventPendingAddr = s.eventPendingAddr := rfl
  simp only [ComesInTurn, State.completeEventRead, busy, events]
  split
  · exact comesInTurn_id closed
  · split
    · exact comesInTurn_completeRead closed
    · exact comesInTurn_id closed

theorem comesInTurn_endReset {s : State} (closed : s.cportOpen = false) (straps : PageNo) : ComesInTurn (fun s => s.endReset straps) s := by
  have held : (s.withOffered []).resetHeld = s.resetHeld := rfl
  simp only [ComesInTurn, State.endReset, held]
  split
  · exact OfferBlind.comesInTurn (f := fun s => { s with resetHeld := false, strapPage := straps }) (fun _ _ => rfl) s
  · exact comesInTurn_id closed

/-! ### The grant that makes room -/

theorem State.grantEntry_cport (s : State) (e : QEntry) (rest : List QEntry) :
    (s.grantEntry e rest).cport = { s.cport with queue := rest } := by
  rw [State.grantEntry_eq]
  split <;> simp [State.headGranted]

theorem State.grantEntry_busy (s : State) (e : QEntry) (rest : List QEntry) :
    (s.grantEntry e rest).mport.busy = some (s.carried e) := by
  rw [State.grantEntry_eq]
  split <;> simp [State.headGranted]

theorem State.grantEntry_classify (s : State) (e : QEntry) (rest : List QEntry) (addr : Addr) :
    (s.grantEntry e rest).classify addr = s.classify addr := by
  rw [State.grantEntry_eq]
  split <;> exact State.classify_congr (by simp [State.headGranted]) (by simp [State.headGranted]) addr

theorem State.grantEntry_resetHeld (s : State) (e : QEntry) (rest : List QEntry) : (s.grantEntry e rest).resetHeld = s.resetHeld := by
  rw [State.grantEntry_eq]
  split <;> simp [State.headGranted]

/-- A write granted is no read of the arm controller. -/
theorem State.carried_isControllerRead (s : State) (e : QEntry) : (s.carried e).isControllerRead = e.isRead := by
  unfold State.carried QEntry.isRead
  cases e.txn with
  | read addr lanes => rfl
  | write addr data lanes =>
    simp only
    (repeat' split) <;> rfl

/-- The grant of a write from a queue of writes opens the C-port. -/
theorem State.cportOpen_grantEntry {s : State} {e : QEntry} {rest : List QEntry} (awake : s.resetHeld = false) (room : rest.length < 12)
    (writes : ∀ x ∈ e :: rest, x.isRead = false) : (s.grantEntry e rest).cportOpen = true := by
  rw [State.cportOpen_iff, s.grantEntry_resetHeld, s.grantEntry_cport, s.grantEntry_busy]
  refine ⟨awake, room, fun x listed => writes x (List.mem_cons_of_mem e listed), ?_⟩
  rw [Option.any_some, State.carried_isControllerRead]
  exact writes e List.mem_cons_self

theorem State.accept_unmatched {s : State} {addr : Addr} {lanes : Lanes} (enabled : lanes ≠ .neither) (h : s.classify addr = .unmatched)
    (data : Word) : s.accept (.write addr data lanes) = s.enqueue (.write addr data lanes) none := by
  rw [State.accept, if_neg enabled, State.acceptClassified, h]

/-- Settles O40: the stretched offer by the C-port's test, the room made by the head's grant, and each occasion in turn. -/
theorem closedPortStretchesTheOffer : Obligations.ClosedPortStretchesTheOffer := by
  intro s addr data lanes
  refine ⟨fun closed => ⟨?_, ?_⟩, ?_, ?_⟩
  · exact congrArg Host.Outcome.next (State.offer_of_closed closed _)
  · exact congrArg Host.Outcome.next (State.offer_of_closed closed _)
  · intro e rest queue room writes awake idle turn offered enabled unmatched
    have grants : s.grantsHead = true := s.grantsHead_iff.mpr ⟨s.portFree_iff.mpr ⟨awake, idle⟩, by simp [queue], turn⟩
    have opens : (s.grantEntry e rest).cportOpen = true := State.cportOpen_grantEntry awake room (queue ▸ writes)
    have queued := State.accept_unmatched enabled ((s.grantEntry_classify e rest addr).trans unmatched) data
    have grant : s.grantHead = (s.grantEntry e rest).acceptOffers [.write addr data lanes] := by
      simp only [State.grantHead, if_pos grants, queue, State.admitStretched, State.grantEntry_offered, offered]
    refine ⟨_, rfl, ?_⟩
    rw [grant, State.acceptOffers, if_pos opens, queued]
    simp [State.acceptOffers, State.enqueue, State.grantEntry_cport]
  · intro closed straps c listed
    simp only [List.mem_cons, List.not_mem_nil, or_false] at listed
    obtain rfl | rfl | rfl | rfl := listed
    · exact ⟨_, rfl, (comesInTurn_grantHead closed).symm⟩
    · exact ⟨_, rfl, (comesInTurn_completeRead closed).symm⟩
    · exact ⟨_, rfl, (comesInTurn_completeEventRead closed).symm⟩
    · exact ⟨_, rfl, (comesInTurn_endReset closed straps).symm⟩

end Sys2Proof.Machine
end
